-- ==== Sys2Proof/Word.lean ====
section
/-! DEFINITION. The widths of the CORE: bytes, words, and the byte strings that frames are (00_scope.md R8). -/

namespace Sys2Proof

/-- A byte, an unsigned integer 0..255 (R8). -/
abbrev Byte := BitVec 8

/-- A word, an unsigned integer 0..2^32-1 (R8); no quantity of the CORE is signed. -/
abbrev Word := BitVec 32

/-- A frame: a finite byte string, offset 0 first (R50). -/
abbrev Frame := List Byte

/-- A file of sixteen words, indices 0..15: the shape of CTX, J and X (R20, R25, R26). -/
abbrev Words := Vector Word 16

end Sys2Proof
end

