-- ==== Sys2Proof/Machine/Codec.lean ====
section
/-! DEFINITION. The Word Codec (41_word_codec.md): little-endian conversion between byte strings and words, and the four
constant words. Pure functions, no state, no failure (R115). -/

namespace Sys2Proof.Machine

/-- `b[off : off + len]`, the `len` bytes of a byte string from offset `off` (R8). -/
def slice {n : Nat} (b : Vector Byte n) (off len : Nat) (h : off + len ≤ n := by decide) : Vector Byte len :=
  Vector.ofFn fun i => b[off + i.val]'(by omega)

/-- LE32_DEC: the byte at the lowest offset is the least significant (R110). -/
def le32Dec (b : Vector Byte 4) : Word :=
  BitVec.ofNat 32 (b[0].toNat + 2 ^ 8 * b[1].toNat + 2 ^ 16 * b[2].toNat + 2 ^ 24 * b[3].toNat)

/-- LE32_ENC: the bytes w[7:0], w[15:8], w[23:16], w[31:24] at offsets 0 to 3 (R111). -/
def le32Enc (w : Word) : Vector Byte 4 :=
  #v[w.extractLsb' 0 8, w.extractLsb' 8 8, w.extractLsb' 16 8, w.extractLsb' 24 8]

/-- WORDS_DEC(b, k): word i is LE32_DEC of bytes 4i..4i+3 (R113). -/
def wordsDec {n : Nat} (k : Nat) (b : Vector Byte n) (h : 4 * k ≤ n := by decide) : Vector Word k :=
  Vector.ofFn fun i => le32Dec (slice b (4 * i.val) 4 (by omega))

/-- WORDS_ENC(w): the encodings of the words, one after another (R113); byte p is byte p mod 4 of word floor(p/4). -/
def wordsEnc {k : Nat} (n : Nat) (w : Vector Word k) (h : n ≤ 4 * k := by decide) : Vector Byte n :=
  Vector.ofFn fun p => (le32Enc (w[p.val / 4]'(by omega)))[p.val % 4]'(by omega)

/-- CTR_DEC(c) = (lo, hi), the two words of an 8-byte little-endian counter (R113). -/
def ctrDec (c : Vector Byte 8) : Word × Word :=
  ((wordsDec 2 c)[0], (wordsDec 2 c)[1])

/-- LE64_DEC: the sum of 2^(8k) * b[k] over k in 0..7 (R114). -/
def le64Dec (b : Vector Byte 8) : BitVec 64 :=
  BitVec.ofNat 64 (b[0].toNat + 2 ^ 8 * b[1].toNat + 2 ^ 16 * b[2].toNat + 2 ^ 24 * b[3].toNat
    + 2 ^ 32 * b[4].toNat + 2 ^ 40 * b[5].toNat + 2 ^ 48 * b[6].toNat + 2 ^ 56 * b[7].toNat)

/-- LE64_ENC: the bytes v[7:0], v[15:8], ..., v[63:56] at offsets 0 to 7 (R114). -/
def le64Enc (v : BitVec 64) : Vector Byte 8 :=
  Vector.ofFn fun k => v.extractLsb' (8 * k.val) 8

/-- SIGMA: the 16 ASCII bytes of "expand 32-byte k" (R116). PRESUMED by the spec itself, from general knowledge (log 12). -/
def sigma : Vector Byte 16 :=
  #v[0x65, 0x78, 0x70, 0x61, 0x6E, 0x64, 0x20, 0x33, 0x32, 0x2D, 0x62, 0x79, 0x74, 0x65, 0x20, 0x6B]

/-- CONST[0..3], SIGMA as four little-endian words (R116). -/
def constWords : Vector Word 4 := wordsDec 4 sigma

end Sys2Proof.Machine
end

