-- ==== Sys2Proof/Syntax.lean ====
section
/-! DEFINITION. The commands as terms, one constructor per row of spec/opcode_table.json, and the three errors a command
can end with. Fixed-length operands are exact-size containers (R231); the input of TRANSFORM is any byte string (R85). -/

namespace Sys2Proof

/-- The instruction set: the five commands of R80, their other names (R94) and the block-count pseudo-commands (R95). -/
inductive Instr where
  /-- DERIVE_SUBKEY, opcode 0x01, format FK16 (R82). -/
  | deriveSubkey (key : Vector Byte 32) (nonce16 : Vector Byte 16)
  /-- NEW_CONTEXT, opcode 0x02, format FK24 (R83). -/
  | newContext (key : Vector Byte 32) (nonce : Vector Byte 24)
  /-- SET_COUNTER, opcode 0x03, format FC: the 8 bytes in buffer order (R84). -/
  | setCounter (counter : Vector Byte 8)
  /-- TRANSFORM, opcode 0x04, format FD: any number of input bytes, none included (R85). -/
  | transform (input : List Byte)
  /-- KEYSTREAM, opcode 0x05, format FL: the number of keystream bytes, an unsigned 64-bit integer (R86). -/
  | keystream (length : BitVec 64)
  /-- ENCRYPT, another name of TRANSFORM (R94). -/
  | encrypt (input : List Byte)
  /-- DECRYPT, another name of TRANSFORM (R94). -/
  | decrypt (input : List Byte)
  /-- INIT, another name of NEW_CONTEXT (R94). -/
  | init (key : Vector Byte 32) (nonce : Vector Byte 24)
  /-- ENCRYPT_BLOCKS: TRANSFORM of an input of exactly 64 times the count (R95). -/
  | encryptBlocks (blocks : Nat) (input : List Byte)
  /-- DECRYPT_BLOCKS: TRANSFORM of an input of exactly 64 times the count (R95). -/
  | decryptBlocks (blocks : Nat) (input : List Byte)
  /-- KEYSTREAM_BLOCKS: KEYSTREAM of 64 times the count, where that fits 64 bits (R95). -/
  | keystreamBlocks (blocks : Nat)
  deriving DecidableEq, Repr

/-- The errors a command can end with; the list is complete (R230). -/
inductive CommandError where
  /-- The frame length is not the one the opcode requires (R231). -/
  | invalidLength
  /-- The frame is empty or its opcode is not 0x01..0x05 (R232). -/
  | invalidCommand
  /-- SET_COUNTER, TRANSFORM or KEYSTREAM while VALID = 0 (R233). -/
  | noContext
  deriving DecidableEq, Repr

end Sys2Proof
end

