-- ==== Sys2Proof/Machine/Operands.lean ====
section
/-! DEFINITION. Operand assembly (R87): the fields of a command frame, the parts of an operand, and the operands of the
assembler's second spellings. No operand is sign-extended, scaled or shifted. -/

namespace Sys2Proof.Machine

/-- MemRead(CMD:off, len): the `len` bytes of the frame from offset `off` (R9). The decoder reads a field only after it
has checked the frame's length, so every byte it reads is there. -/
def field (cmd : Frame) (off len : Nat) : Vector Byte len :=
  Vector.ofFn fun i => cmd.getD (off + i.val) 0

/-- nonce[0:16], the part HCHACHA20 uses (R176). -/
def noncePart (nonce : Vector Byte 24) : Vector Byte 16 := slice nonce 0 16

/-- nonce[16:24], the part kept in CTX[14..15] (R176). -/
def nonceSuffix (nonce : Vector Byte 24) : Vector Byte 8 := slice nonce 16 8

/-- The input KEYSTREAM runs on: n zero bytes (R205). -/
def zeroInput (n : Nat) : List Byte := List.replicate n 0

/-- The length operand KEYSTREAM_BLOCKS stands for, 64 times the count (R95). -/
def blocksLength (blocks : Nat) : BitVec 64 := BitVec.ofNat 64 (64 * blocks)

/-- `SET_COUNTER value=v` is `counter=LE64_ENC(v)` (R93). -/
def setCounterValue (v : BitVec 64) : Instr := .setCounter (le64Enc v)

end Sys2Proof.Machine
end

