-- ==== Sys2Proof/WellFormed.lean ====
section
/-! DEFINITION. Which terms the assembler accepts (R95). The lengths of key, nonce and counter need no check here: the
types of Syntax.lean fix them. -/

namespace Sys2Proof

/-- The conditions of R95's table; every other term is accepted as it stands. -/
def Instr.wellFormed : Instr → Bool
  | .deriveSubkey _ _ => true
  | .newContext _ _ => true
  | .setCounter _ => true
  | .transform _ => true
  | .keystream _ => true
  | .encrypt _ => true
  | .decrypt _ => true
  | .init _ _ => true
  | .encryptBlocks blocks input => decide (input.length = 64 * blocks)
  | .decryptBlocks blocks input => decide (input.length = 64 * blocks)
  | .keystreamBlocks blocks => decide (64 * blocks ≤ 2 ^ 64 - 1)

/-- A well-formed instruction: one the assembler does not refuse (R95). -/
abbrev Instr.WellFormed (i : Instr) : Prop := i.wellFormed = true

end Sys2Proof
end

