-- ==== Sys2Proof/Decode.lean ====
section
/-! DEFINITION. The decoder of R90, total on any byte string and rejecting by name; after it the encoder, written from the
format tables R82 to R86; then the host's view of a table word. -/

namespace Sys2Proof

open Sys2Proof.Machine

/-- The decoder, its checks in the order of R90: the empty frame, then the opcode, then the length it requires. -/
def decode (cmd : Frame) : Except CommandError Instr :=
  match cmd with
  | [] => .error .invalidCommand
  | op :: payload =>
    if op = 0x01 then
      if cmd.length ≠ 49 then .error .invalidLength
      else .ok (.deriveSubkey (field cmd 1 32) (field cmd 33 16))
    else if op = 0x02 then
      if cmd.length ≠ 57 then .error .invalidLength
      else .ok (.newContext (field cmd 1 32) (field cmd 33 24))
    else if op = 0x03 then
      if cmd.length ≠ 9 then .error .invalidLength
      else .ok (.setCounter (field cmd 1 8))
    else if op = 0x04 then .ok (.transform payload)
    else if op = 0x05 then
      if cmd.length ≠ 9 then .error .invalidLength
      else .ok (.keystream (le64Dec (field cmd 1 8)))
    else .error .invalidCommand

/-- The frame of a command, by its format: FK16 (R82), FK24 (R83), FC (R84), FD (R85), FL (R86). The other names encode as
the commands they name (R94), the pseudo-commands as their expansions (R95). -/
def encode : Instr → Frame
  | .deriveSubkey key nonce16 => 0x01 :: (key.toList ++ nonce16.toList)
  | .newContext key nonce => 0x02 :: (key.toList ++ nonce.toList)
  | .setCounter counter => 0x03 :: counter.toList
  | .transform input => 0x04 :: input
  | .keystream length => 0x05 :: (le64Enc length).toList
  | .encrypt input => 0x04 :: input
  | .decrypt input => 0x04 :: input
  | .init key nonce => 0x02 :: (key.toList ++ nonce.toList)
  | .encryptBlocks _ input => 0x04 :: input
  | .decryptBlocks _ input => 0x04 :: input
  | .keystreamBlocks blocks => 0x05 :: (le64Enc (blocksLength blocks)).toList

/-- What a disassembler prints for the term's frame: one of the five commands (R94, R95). -/
def Instr.canonical : Instr → Instr
  | .encrypt input => .transform input
  | .decrypt input => .transform input
  | .init key nonce => .newContext key nonce
  | .encryptBlocks _ input => .transform input
  | .decryptBlocks _ input => .transform input
  | .keystreamBlocks blocks => .keystream (blocksLength blocks)
  | .deriveSubkey key nonce16 => .deriveSubkey key nonce16
  | .newContext key nonce => .newContext key nonce
  | .setCounter counter => .setCounter counter
  | .transform input => .transform input
  | .keystream length => .keystream length

/-- The frame length an opcode requires (R80); 1, the opcode alone, where it requires none. -/
def requiredLength (op : Byte) : Nat :=
  if op = 0x01 then 49 else if op = 0x02 then 57 else if op = 0x03 then 9 else if op = 0x05 then 9 else 1

/-- The bytes of a table word: byte k is bits 8k+7..8k. -/
def tableBytes (nbits w : Nat) : List Byte :=
  (List.range ((nbits + 7) / 8)).map fun k => BitVec.ofNat 8 (w >>> (8 * k))

/-- The frame a table word stands for: its bytes, then zero bytes up to the length its opcode requires (log 11). -/
def tableFrame (nbits w : Nat) : Frame :=
  let bytes := tableBytes nbits w
  bytes ++ List.replicate (requiredLength (bytes.headD 0) - bytes.length) 0

/-- The instruction the decoder reads from a table word. -/
def decodeTableWord (nbits w : Nat) : Option Instr :=
  match decode (tableFrame nbits w) with
  | .ok i => some i
  | .error _ => none

end Sys2Proof
end

