-- ==== Sys2Proof/Config.lean ====
section
/-! DEFINITION. What the spec leaves open: the free values. The fixed parameters of R5 (32-byte key, 24-byte nonce,
16-byte nonce prefix, 8-byte counter, 64-byte block, 10 double rounds) stand as numerals where the rules use them, since
none is configurable. Of the open parameters (92_eei_decisions.md), TRANSPORT is taken at its default, a list of byte
strings in and a list of byte strings out (State.pending, State.responses), and no rule depends on LATENCY. -/

namespace Sys2Proof.Config

/-- FREE VALUE. The content of a word file that the spec leaves unspecified: J and X between commands (R28), CTX, J and X
after the reset input (R37). Applied to State.freeCount, so that no two uses share a value. Nothing constrains it. -/
opaque freeWords : Nat → Words

/-- FREE VALUE. The content of the 64-byte scratch KS where the spec leaves it unspecified (R28, R37). Nothing
constrains it. -/
opaque freeBytes : Nat → Vector Byte 64

end Sys2Proof.Config
end

