-- ==== Sys2Proof/Machine/Permutation.lean ====
section
/-! DEFINITION. The Permutation Core (42_permutation.md): the word operators, the quarter round, the rounds and the full
permutation, as functions of the sixteen words of X (R141). -/

namespace Sys2Proof.Machine

/-- ADD32: addition modulo 2^32; the carry out is dropped (R130). -/
def add32 (a b : Word) : Word := a + b

/-- XOR32: bitwise exclusive or (R131). -/
def xor32 (a b : Word) : Word := a ^^^ b

/-- ROTL32: bit k moves to bit (k + n) mod 32 (R132). -/
def rotl32 (v : Word) (n : Nat) : Word := v.rotateLeft n

/-- One line of the listing of R134: `a += b;  d = rotl(d ^ a, n)`, the second assignment using what the first wrote. -/
def qrLine (a b d : Fin 16) (n : Nat) (x : Words) : Words :=
  let x := x.set a (add32 x[a] x[b])
  x.set d (rotl32 (xor32 x[d] x[a]) n)

/-- QR(a, b, c, d) on X: the four lines of R134 in order, eight assignments, each using what the earlier ones wrote. -/
def qr (a b c d : Fin 16) (x : Words) : Words :=
  let x := qrLine a b d 16 x
  let x := qrLine c d b 12 x
  let x := qrLine a b d 8 x
  qrLine c d b 7 x

/-- A quadruple of slot indices (a, b, c, d) for QR. -/
abbrev Quad := Fin 16 × Fin 16 × Fin 16 × Fin 16

/-- QR on a quadruple. -/
def qrAt (x : Words) (q : Quad) : Words := qr q.1 q.2.1 q.2.2.1 q.2.2.2 x

/-- The columns, in the order of R135. -/
def columns : List Quad := [(0, 4, 8, 12), (1, 5, 9, 13), (2, 6, 10, 14), (3, 7, 11, 15)]

/-- The diagonals, in the order of R136. -/
def diagonals : List Quad := [(0, 5, 10, 15), (1, 6, 11, 12), (2, 7, 8, 13), (3, 4, 9, 14)]

/-- COLUMN_ROUND: QR on the four columns (R135). -/
def columnRound (x : Words) : Words := columns.foldl qrAt x

/-- DIAGONAL_ROUND: QR on the four diagonals (R136). -/
def diagonalRound (x : Words) : Words := diagonals.foldl qrAt x

/-- DOUBLE_ROUND: columns first, then diagonals (R138). -/
def doubleRound (x : Words) : Words := diagonalRound (columnRound x)

/-- `n` double rounds, one after another. -/
def doubleRounds : Nat → Words → Words
  | 0, x => x
  | n + 1, x => doubleRounds n (doubleRound x)

/-- PERMUTE: 10 double rounds, 80 quarter rounds (R139; 90_conflicts.md C1). No feed-forward (R140). -/
def permute (x : Words) : Words := doubleRounds 10 x

end Sys2Proof.Machine
end

