-- ==== Sys2Proof/Machine/State.lean ====
section
/-! DEFINITION. The state of the CORE as plain data (10_state.md), the transport's two lists, the reasons a step can stop,
and the state after reset. -/

namespace Sys2Proof.Machine

/-- What the host can do to the CORE: send a frame, or assert reset between commands or during one. -/
inductive HostInput where
  /-- A whole command frame offered to the CORE (R50, R81). -/
  | frame (cmd : Frame)
  /-- The reset input asserted between two commands (R260). -/
  | reset
  /-- A command frame that the CORE accepts and whose execution the reset input cuts short (R262). -/
  | frameThenReset (cmd : Frame)
  deriving DecidableEq, Repr

/-- The state. `ctx` to `ks` are the CORE's own; `pending` and `responses` stand for TRANSPORT at its default
(92_eei_decisions.md); `freeCount` is the model's own field (log 4). -/
structure State where
  /-- CTX[0..15], the context: constants, subkey, counter, nonce suffix (R20). -/
  ctx : Words
  /-- VALID: CTX holds a context built since the last reset (R33). -/
  valid : Bool
  /-- BUSY: a command is being executed and its response is not yet delivered (R34). -/
  busy : Bool
  /-- J[0..15], the snapshot of the block loop (R25). -/
  j : Words
  /-- X[0..15], the working copy the permutation runs on (R26). -/
  x : Words
  /-- KS[0..63], the scratch with the serialised keystream block (R27). -/
  ks : Vector Byte 64
  /-- What the host has offered and the CORE has not taken, oldest first; the transport holds it back (R268). -/
  pending : List HostInput
  /-- The response frames delivered so far, oldest first (R63, R273). -/
  responses : List Frame
  /-- How many free values have been handed out (log 4). -/
  freeCount : Nat
  deriving DecidableEq, Repr

/-- The faults of the CORE: there are none. Every command frame is answered, an error being an ordinary outcome, and
"the CORE never hangs" (R230, R238); so no step and no meaning raises a fault. -/
inductive Fault where
  deriving DecidableEq, Repr

/-- Why a term has no effect. No step of the machine meets one: the decoder gives none of the terms they refuse. -/
inductive Refusal where
  /-- An instruction that has no meaning yet, by its mnemonic; raised by exec's arms only, safe. -/
  | notModelled (mnemonic : String)
  /-- ENCRYPT_BLOCKS or DECRYPT_BLOCKS whose input is not 64 times the count: the assembler refuses it and no frame
  exists (R95); raised by execEncryptBlocks and execDecryptBlocks, safe. -/
  | blockCountMismatch
  /-- KEYSTREAM_BLOCKS whose 64-fold count does not fit 64 bits: the assembler refuses it and no frame exists (R95);
  raised by execKeystreamBlocks, safe. -/
  | blockCountTooLarge
  deriving DecidableEq, Repr

/-- The outcome of a step or of a meaning. -/
abbrev Result := Host.Outcome State Fault Refusal

/-- The state right after power-on: VALID = 0, BUSY = 0, nothing in flight (R37). The zeros of CTX, J, X, KS are the
model's DESIGN CHOICE, the spec leaving them unspecified (log 3); freeCount = 0 is the model's too (log 4). -/
def State.reset : State where
  ctx := Vector.replicate 16 0
  valid := false
  busy := false
  j := Vector.replicate 16 0
  x := Vector.replicate 16 0
  ks := Vector.replicate 64 0
  pending := []
  responses := []
  freeCount := 0

end Sys2Proof.Machine
end

