-- ==== Sys2Proof/Machine/Ops.lean ====
section
/-! DEFINITION. The named operations over the register files and the frames: accepting a frame, answering it, ending a
command in an error, reset, HCHACHA20 on X, the block function on J, X and KS, and the counter. -/

namespace Sys2Proof.Machine

/-! ### Frames, errors, reset -/

/-- The CORE takes the oldest input and turns BUSY on (R34); `rest` is what the transport still holds. -/
def State.accept (rest : List HostInput) (s : State) : State := { s with pending := rest, busy := true }

/-- Status OK (R89). -/
def statusOk : Byte := 0x00

/-- The status byte of an error (R89). -/
def errorCode : CommandError → Byte
  | .invalidLength => 0x01
  | .invalidCommand => 0x02
  | .noContext => 0x03

/-- The response frame `RSP = status ++ data` is delivered (R88); with it BUSY turns off (R34). -/
def State.respond (status : Byte) (data : List Byte) (s : State) : State :=
  { s with responses := s.responses ++ [status :: data], busy := false }

/-- A command completes: status OK and its data (R88). -/
def State.complete (data : List Byte) (s : State) : State := s.respond statusOk data

/-- `raise E()`: the command ends at once, no register file and no flag is written, the response is the one status byte,
BUSY turns off (R236). It is the whole of taking an exception on this hardware, and there is nothing to return from: the
state is the one before the frame, and the next frame executes normally (R237). -/
def State.raise (e : CommandError) (s : State) : State := s.respond (errorCode e) []

/-- The reset input: VALID = 0, BUSY = 0, the register files unspecified (R37, R260, R262), so free values. A frame in
flight is discarded; the frames the transport still holds and the responses delivered stay (log 17). -/
def State.resetInput (s : State) : State :=
  { s with
    ctx := Config.freeWords s.freeCount
    valid := false
    busy := false
    j := Config.freeWords (s.freeCount + 1)
    x := Config.freeWords (s.freeCount + 2)
    ks := Config.freeBytes s.freeCount
    freeCount := s.freeCount + 3 }

/-! ### HCHACHA20 on X -/

/-- The loaded state of HCHACHA20: constants, key, nonce prefix (R161). -/
def hchachaLoad (k : Vector Byte 32) (n : Vector Byte 16) : Words :=
  Vector.ofFn fun i =>
    if h : i.val < 4 then constWords[i.val]
    else if h' : i.val < 12 then (wordsDec 8 k)[i.val - 4]
    else (wordsDec 4 n)[i.val - 12]

/-- The subkey words SK: X[0..3] then X[12..15] (R162). -/
def subkeyWords (x : Words) : Vector Word 8 :=
  Vector.ofFn fun i => if h : i.val < 4 then x[i.val] else x[i.val + 8]

/-- The subkey bytes s = WORDS_ENC(SK), with nothing added to X first (R162, R163). -/
def subkeyBytes (x : Words) : Vector Byte 32 := wordsEnc 32 (subkeyWords x)

/-- HCHACHA20(k, n) as a function (R160, R164). -/
def hchacha20 (k : Vector Byte 32) (n : Vector Byte 16) : Vector Byte 32 :=
  subkeyBytes (permute (hchachaLoad k n))

/-- HCHACHA20 on the register file: X is loaded (R161) and permuted (R139). -/
def State.runHchacha (k : Vector Byte 32) (n : Vector Byte 16) (s : State) : State :=
  { s with x := permute (hchachaLoad k n) }

/-- After DERIVE_SUBKEY or NEW_CONTEXT the content of X is unspecified (R26, R28): a free value (log 2). -/
def State.retireX (s : State) : State :=
  { s with x := Config.freeWords s.freeCount, freeCount := s.freeCount + 1 }

/-! ### The context -/

/-- The sixteen words NEW_CONTEXT writes, from the subkey bytes and the nonce (R175, R176). -/
def contextWords (sk : Vector Byte 32) (nonce : Vector Byte 24) : Words :=
  Vector.ofFn fun i =>
    if h : i.val < 4 then constWords[i.val]
    else if h' : i.val < 12 then (wordsDec 8 sk)[i.val - 4]
    else if h'' : i.val < 14 then 0
    else (wordsDec 2 (nonceSuffix nonce))[i.val - 14]

/-- COUNTER = CTX[13] * 2^32 + CTX[12] (R21). -/
def counterOf (ctx : Words) : BitVec 64 := ctx[13] ++ ctx[12]

/-- COUNTER of the state's context (R21). -/
def State.counter (s : State) : BitVec 64 := counterOf s.ctx

/-- CTX with COUNTER replaced: CTX[12] its low word, CTX[13] its high word, the other fourteen as they are (R201). -/
def withCounter (ctx : Words) (v : BitVec 64) : Words :=
  (ctx.set 12 (v.extractLsb' 0 32)).set 13 (v.extractLsb' 32 32)

/-- COUNTER_INC on a context: the low word plus 1, and on its wrap to 0 the high word plus 1 (R203). -/
def counterIncWords (ctx : Words) : Words :=
  let lo := add32 ctx[12] 1
  if lo = 0 then (ctx.set 12 lo).set 13 (add32 ctx[13] 1) else ctx.set 12 lo

/-- COUNTER_INC: step 6 of the block loop (R203). -/
def State.counterInc (s : State) : State := { s with ctx := counterIncWords s.ctx }

/-! ### The block function -/

/-- SNAPSHOT: J <- CTX, X <- J (R195). -/
def State.snapshot (s : State) : State :=
  let s := { s with j := s.ctx }
  { s with x := s.j }

/-- PERMUTE on X (R139). -/
def State.permuteX (s : State) : State := { s with x := permute s.x }

/-- Word by word addition, no carry from one word into the next (R196). -/
def addWords (a b : Words) : Words := Vector.ofFn fun i => add32 a[i.val] b[i.val]

/-- FEED_FORWARD: X <- X + J (R196). -/
def State.feedForward (s : State) : State := { s with x := addWords s.x s.j }

/-- SERIALIZE: KS <- WORDS_ENC(X) (R197). -/
def State.serialize (s : State) : State := { s with ks := wordsEnc 64 s.x }

/-- BLOCK: steps 1 to 4 (R198). -/
def State.block (s : State) : State := s.snapshot.permuteX.feedForward.serialize

/-- KSBLOCK(ctx): the 64 keystream bytes of a context (R198). -/
def ksBlock (ctx : Words) : Vector Byte 64 :=
  wordsEnc 64 (Vector.ofFn fun i : Fin 16 => add32 (permute ctx)[i.val] ctx[i.val])

/-- XOR_BYTES: up to 64 bytes of input with KS, byte by byte; the rest of KS is not used (R199). -/
def xorBytes (input : List Byte) (ks : Vector Byte 64) : List Byte :=
  List.zipWith (fun a b => a ^^^ b) input ks.toList

/-- After a block iteration the content of J, X and KS is unspecified (R25 to R28): free values (log 2). -/
def State.retireBlock (s : State) : State :=
  { s with
    j := Config.freeWords s.freeCount
    x := Config.freeWords (s.freeCount + 1)
    ks := Config.freeBytes s.freeCount
    freeCount := s.freeCount + 2 }

end Sys2Proof.Machine
end

