-- ==== Sys2Proof/Machine/Flags.lean ====
section
/-! DEFINITION. The flags: VALID and BUSY are all there are (R35). No operation records a carry, overflow, zero or sign, and
the wrap of COUNTER sets nothing (R36). BUSY is turned on by State.accept and off by State.respond (Ops.lean). -/

namespace Sys2Proof.Machine

/-- VALID <- 1, by NEW_CONTEXT alone (R33). -/
def State.setValid (s : State) : State := { s with valid := true }

/-- The check of SET_COUNTER, TRANSFORM and KEYSTREAM: with VALID = 0 the command ends with NoContext and nothing is
written (R33, R233); else it runs. -/
def withContext (run : State → State) (s : State) : Result :=
  if s.valid = false then .next (s.raise .noContext) else .next (run s)

end Sys2Proof.Machine
end

