-- ==== Sys2Proof/Machine/Context.lean ====
section
/-! DEFINITION. The commands NEW_CONTEXT (also INIT) and SET_COUNTER (44_context.md). -/

namespace Sys2Proof.Machine

/-- The effect of NEW_CONTEXT: derive the subkey, write all of CTX, set VALID; legal whatever VALID is (R175). -/
def newContextEffect (key : Vector Byte 32) (nonce : Vector Byte 24) (s : State) : State :=
  let s := s.runHchacha key (noncePart nonce)
  let subkey := subkeyBytes s.x
  let s := { s with ctx := contextWords subkey nonce }
  s.setValid.retireX.complete []

/-- NEW_CONTEXT (R175). -/
def execNewContext (key : Vector Byte 32) (nonce : Vector Byte 24) (s : State) : Result :=
  .next (newContextEffect key nonce s)

/-- INIT, another name of NEW_CONTEXT (R94, R175). -/
def execInit (key : Vector Byte 32) (nonce : Vector Byte 24) (s : State) : Result :=
  .next (newContextEffect key nonce s)

/-- The effect of SET_COUNTER under a context: CTX[12] the low word, CTX[13] the high word (R180). -/
def setCounterEffect (counter : Vector Byte 8) (s : State) : State :=
  let (lo, hi) := ctrDec counter
  { s with ctx := (s.ctx.set 12 lo).set 13 hi }.complete []

/-- SET_COUNTER: NoContext when VALID = 0 (R180, R181). -/
def execSetCounter (counter : Vector Byte 8) (s : State) : Result :=
  withContext (setCounterEffect counter) s

end Sys2Proof.Machine
end

