-- ==== Sys2Proof/Machine/Stream.lean ====
section
/-! DEFINITION. The Stream Engine and the Keystream Generator (45_stream.md): TRANSFORM, KEYSTREAM, their other names and
the block-count pseudo-commands. -/

namespace Sys2Proof.Machine

/-- ceil(n/64), the number of iterations of the block loop (R201). -/
def blockCount (n : Nat) : Nat := (n + 63) / 64

/-- One iteration of the loop of R200 on the input bytes that remain: BLOCK, XOR_BYTES on up to 64 of them, COUNTER_INC.
It gives the output bytes and the state; J, X and KS are dead after it (R25, R27). -/
def streamBlock (input : List Byte) (s : State) : List Byte × State :=
  let s := s.block
  let output := xorBytes (input.take 64) s.ks
  (output, s.counterInc.retireBlock)

/-- The block loop: `n` iterations, each on the bytes the ones before it left (R200). -/
def streamLoop : Nat → List Byte → State → List Byte × State
  | 0, _, s => ([], s)
  | n + 1, input, s =>
    let (output, s) := streamBlock input s
    let (outputs, s) := streamLoop n (input.drop 64) s
    (output ++ outputs, s)

/-- The effect of TRANSFORM under a context: the loop over all of the input, then status OK and the output (R200). -/
def transformEffect (input : List Byte) (s : State) : State :=
  let (output, s) := streamLoop (blockCount input.length) input s
  s.complete output

/-- TRANSFORM: NoContext when VALID = 0, even for no input (R200, R204). -/
def execTransform (input : List Byte) (s : State) : Result :=
  withContext (transformEffect input) s

/-- ENCRYPT, another name of TRANSFORM (R94). -/
def execEncrypt (input : List Byte) (s : State) : Result :=
  withContext (transformEffect input) s

/-- DECRYPT, another name of TRANSFORM (R94). -/
def execDecrypt (input : List Byte) (s : State) : Result :=
  withContext (transformEffect input) s

/-- The effect of KEYSTREAM under a context: the loop of R200 on n zero bytes (R205). -/
def keystreamEffect (length : BitVec 64) (s : State) : State :=
  transformEffect (zeroInput length.toNat) s

/-- KEYSTREAM: NoContext when VALID = 0, even for length 0 (R204, R205). -/
def execKeystream (length : BitVec 64) (s : State) : Result :=
  withContext (keystreamEffect length) s

/-- The expansion of ENCRYPT_BLOCKS and DECRYPT_BLOCKS: TRANSFORM when the input is 64 times the count, "else refused"
(R95). -/
def transformBlocks (blocks : Nat) (input : List Byte) (s : State) : Result :=
  if input.length = 64 * blocks then withContext (transformEffect input) s else .refused .blockCountMismatch

/-- ENCRYPT_BLOCKS (R95). -/
def execEncryptBlocks (blocks : Nat) (input : List Byte) (s : State) : Result :=
  transformBlocks blocks input s

/-- DECRYPT_BLOCKS (R95). -/
def execDecryptBlocks (blocks : Nat) (input : List Byte) (s : State) : Result :=
  transformBlocks blocks input s

/-- KEYSTREAM_BLOCKS: KEYSTREAM of 64 times the count when that fits 64 bits, "else refused" (R95). -/
def execKeystreamBlocks (blocks : Nat) (s : State) : Result :=
  if 64 * blocks ≤ 2 ^ 64 - 1 then withContext (keystreamEffect (blocksLength blocks)) s
  else .refused .blockCountTooLarge

end Sys2Proof.Machine
end

