-- ==== Sys2Proof/Machine/Subkey.lean ====
section
/-! DEFINITION. The command DERIVE_SUBKEY (43_hchacha20.md). -/

namespace Sys2Proof.Machine

/-- DERIVE_SUBKEY: HCHACHA20 of the operands, returned in clear; needs no context, leaves CTX and VALID alone (R165). -/
def execDeriveSubkey (key : Vector Byte 32) (nonce16 : Vector Byte 16) (s : State) : Result :=
  let s := s.runHchacha key nonce16
  let subkey := subkeyBytes s.x
  .next (s.retireX.complete subkey.toList)

end Sys2Proof.Machine
end

