-- ==== Sys2Proof/Machine/Dispatch.lean ====
section
/-! DEFINITION. The meaning of every instruction, one arm per constructor. -/

namespace Sys2Proof.Machine

def exec (i : Instr) (s : State) : Host.Outcome State Fault Refusal :=
  match i with
  | .deriveSubkey key nonce16 => Sys2Proof.Machine.execDeriveSubkey key nonce16 s
  | .newContext key nonce => Sys2Proof.Machine.execNewContext key nonce s
  | .setCounter counter => Sys2Proof.Machine.execSetCounter counter s
  | .transform input => Sys2Proof.Machine.execTransform input s
  | .keystream length => Sys2Proof.Machine.execKeystream length s
  | .encrypt input => Sys2Proof.Machine.execEncrypt input s
  | .decrypt input => Sys2Proof.Machine.execDecrypt input s
  | .init key nonce => Sys2Proof.Machine.execInit key nonce s
  | .encryptBlocks blocks input => Sys2Proof.Machine.execEncryptBlocks blocks input s
  | .decryptBlocks blocks input => Sys2Proof.Machine.execDecryptBlocks blocks input s
  | .keystreamBlocks blocks => Sys2Proof.Machine.execKeystreamBlocks blocks s

end Sys2Proof.Machine
end

