-- ==== Sys2Proof/Machine/Fetch.lean ====
section
/-! DEFINITION. What the CORE does with each host input: it decodes and executes a frame, or it is reset. -/

namespace Sys2Proof.Machine

/-- An accepted frame: decode it (R90), then execute the command or end in the decoder's error (R236). -/
def runFrame (cmd : Frame) (s : State) : Result :=
  match decode cmd with
  | .ok i => exec i s
  | .error e => .next (s.raise e)

/-- The oldest input is served. A frame offered while BUSY = 1 is held back, not dropped and not started early (R268);
reset takes effect whatever BUSY is (R260, R262). -/
def serveInput (input : HostInput) (rest : List HostInput) (s : State) : Result :=
  match input with
  | .reset => .next { s with pending := rest }.resetInput
  | .frame cmd => if s.busy then .next s else runFrame cmd (s.accept rest)
  | .frameThenReset _ => if s.busy then .next s else .next (s.accept rest).resetInput

/-- The input at which a table word is the oldest frame and BUSY = 0, so that the CORE takes it next. -/
def offerFirst (cmd : Frame) (s : State) : State :=
  { s with pending := .frame cmd :: s.pending, busy := false }

end Sys2Proof.Machine
end

