-- ==== Sys2Proof/Machine/Step.lean ====
section
/-! DEFINITION. One step of the CORE: one host input served to completion (R58, R63). With no input it waits (R261). -/

namespace Sys2Proof.Machine

/-- One step. An idle CORE with nothing offered stays as it is: nothing but a frame or reset changes it (R250). -/
def step (s : State) : Host.Outcome State Fault Refusal :=
  match s.pending with
  | [] => .next s
  | input :: rest => serveInput input rest s

/-- The state with a table word offered as the frame the CORE takes next. -/
def State.withFetchWord (s : State) (nbits w : Nat) : State := offerFirst (tableFrame nbits w) s

end Sys2Proof.Machine
end

