-- ==== Sys2Proof/Safety.lean ====
section
/-! DEFINITION. The terms claims are stated in: the invariant of the context, what two states share when no response can
tell them apart, and the end of a run. -/

namespace Sys2Proof.Machine

/-- Between steps no command is in progress (R34), and a valid context has the constants in words 0 to 3, as NEW_CONTEXT
left them (R22). -/
structure State.Inv (s : State) : Prop where
  idle : s.busy = false
  constants : s.valid = true → ∀ i : Fin 4, s.ctx[i.val] = constWords[i.val]

/-- Two states agree on all that a rule may read: VALID, BUSY, the inputs, the responses, and CTX once VALID = 1. They may
differ in J, X, KS (R28), in the model's free-value counter, and in CTX while VALID = 0 (R37). -/
structure State.Agree (s t : State) : Prop where
  valid : s.valid = t.valid
  busy : s.busy = t.busy
  pending : s.pending = t.pending
  responses : s.responses = t.responses
  ctx : s.valid = true → s.ctx = t.ctx

/-- A frame that is no command: empty, or its opcode is not 0x01..0x05 (R91, R232). -/
def IllegalFrame (cmd : Frame) : Prop :=
  cmd = [] ∨ ∃ op payload, cmd = op :: payload ∧ ¬ (1 ≤ op.toNat ∧ op.toNat ≤ 5)

/-- A frame whose opcode requires another length: 49, 57, 9, 9 for 0x01, 0x02, 0x03, 0x05 (R231). -/
def WrongLengthFrame (cmd : Frame) : Prop :=
  ∃ op payload, cmd = op :: payload ∧
    ((op = 0x01 ∧ cmd.length ≠ 49) ∨ (op = 0x02 ∧ cmd.length ≠ 57) ∨ (op = 0x03 ∧ cmd.length ≠ 9) ∨
      (op = 0x05 ∧ cmd.length ≠ 9))

/-- A frame of legal length of a command that needs a context: SET_COUNTER, TRANSFORM, KEYSTREAM (R233). -/
def ContextFrame (cmd : Frame) : Prop :=
  ∃ op payload, cmd = op :: payload ∧
    ((op = 0x03 ∧ cmd.length = 9) ∨ op = 0x04 ∨ (op = 0x05 ∧ cmd.length = 9))

/-- The terms that read VALID: SET_COUNTER, TRANSFORM, KEYSTREAM (R33) under all their names (R94, R95). -/
def needsContext : Instr → Bool
  | .deriveSubkey _ _ => false
  | .newContext _ _ => false
  | .setCounter _ => true
  | .transform _ => true
  | .keystream _ => true
  | .encrypt _ => true
  | .decrypt _ => true
  | .init _ _ => false
  | .encryptBlocks _ _ => true
  | .decryptBlocks _ _ => true
  | .keystreamBlocks _ => true

/-- A run has ended: every input is served and the last response delivered (R273). -/
def State.RunEnded (s : State) : Prop := s.pending = [] ∧ s.busy = false

end Sys2Proof.Machine
end

