-- ==== Sys2Proof/Certificates/Slice0/Obligations.lean ====
section
/-! DEFINITION. The statements for the provers, one Prop each, from the spec's numbered rules. Every next state named in them
is that of exec or step; a state is any state, reachable or not. -/

open Sys2Proof Sys2Proof.Machine

/-! ### Decoding and encoding -/

/-- R82 to R86, R94, R95: the frame of every well-formed term decodes to the command it names, with every operand. -/
def Obligations.DecodeOfEncodeIsTheCommand : Prop :=
  ∀ i : Instr, i.WellFormed → decode (encode i) = .ok i.canonical

/-- R90, the other direction: a frame the decoder accepts is the frame of the one command it gives. -/
def Obligations.EncodeOfDecodeIsTheFrame : Prop :=
  ∀ (cmd : Frame) (i : Instr), decode cmd = .ok i →
    encode i = cmd ∧ i.WellFormed ∧ i.canonical = i ∧ decode (encode i) = .ok i

/-- R90, R91: exactly which frames the decoder refuses, and with which error; it never answers NoContext. -/
def Obligations.DecoderRefusesExactly : Prop :=
  ∀ cmd : Frame,
    (decode cmd = .error .invalidCommand ↔ IllegalFrame cmd) ∧
    (decode cmd = .error .invalidLength ↔ WrongLengthFrame cmd) ∧
    decode cmd ≠ .error .noContext ∧
    ((∃ i, decode cmd = .ok i) ↔ ¬ IllegalFrame cmd ∧ ¬ WrongLengthFrame cmd)

/-- R82 to R86: frames written out from the format tables decode to the commands they stand for. -/
def Obligations.WrittenFramesDecode : Prop :=
  decode (0x01 :: List.replicate 32 0x11 ++ List.replicate 16 0x22) =
      .ok (.deriveSubkey (Vector.replicate 32 0x11) (Vector.replicate 16 0x22)) ∧
    decode (0x02 :: List.replicate 32 0x11 ++ List.replicate 24 0x22) =
      .ok (.newContext (Vector.replicate 32 0x11) (Vector.replicate 24 0x22)) ∧
    decode [0x03, 0x01, 0, 0, 0, 0, 0, 0, 0x80] = .ok (.setCounter #v[0x01, 0, 0, 0, 0, 0, 0, 0x80]) ∧
    decode [0x04, 0x41, 0x42, 0x43] = .ok (.transform [0x41, 0x42, 0x43]) ∧
    decode [0x05, 0x80, 0x01, 0, 0, 0, 0, 0, 0] = .ok (.keystream 384)

/-- R94: ENCRYPT and DECRYPT are TRANSFORM, INIT is NEW_CONTEXT: the same frame, and the same effect in every state. -/
def Obligations.OtherNamesAreTheirCommand : Prop :=
  (∀ input, encode (.encrypt input) = encode (.transform input) ∧
      encode (.decrypt input) = encode (.transform input)) ∧
    (∀ key nonce, encode (.init key nonce) = encode (.newContext key nonce)) ∧
    (∀ input s, exec (.encrypt input) s = exec (.transform input) s ∧
      exec (.decrypt input) s = exec (.transform input) s) ∧
    (∀ key nonce s, exec (.init key nonce) s = exec (.newContext key nonce) s)

/-! ### One step -/

/-- R30, R63: with BUSY = 0 and a frame offered that decodes to `i`, the step is `exec i` on the state in which the frame is
taken and BUSY is on. -/
def Obligations.StepRunsDecodedCommand : Prop :=
  ∀ (s : State) (cmd : Frame) (rest : List HostInput) (i : Instr),
    s.busy = false → s.pending = .frame cmd :: rest → decode cmd = .ok i →
    step s = exec i { s with pending := rest, busy := true }

/-- R231, R232, R235, R236: the error of a bad frame and of a command without a context, in the order of priority, and
the whole next state: one response byte, nothing else but the frame taken. -/
def Obligations.ErrorsInPriorityOrder : Prop :=
  ∀ (s : State) (cmd : Frame) (rest : List HostInput),
    s.busy = false → s.pending = .frame cmd :: rest →
    (IllegalFrame cmd →
      step s = .next { s with pending := rest, responses := s.responses ++ [[0x02]] }) ∧
    (¬ IllegalFrame cmd → WrongLengthFrame cmd →
      step s = .next { s with pending := rest, responses := s.responses ++ [[0x01]] }) ∧
    (¬ IllegalFrame cmd → ¬ WrongLengthFrame cmd → ContextFrame cmd → s.valid = false →
      step s = .next { s with pending := rest, responses := s.responses ++ [[0x03]] })

/-- R89: the status byte of the response to a frame says what happened. -/
def Obligations.StatusByteTellsTheCause : Prop :=
  ∀ (s t : State) (cmd : Frame) (rest : List HostInput) (status : Byte) (data : List Byte),
    s.busy = false → s.pending = .frame cmd :: rest → step s = .next t →
    t.responses = s.responses ++ [status :: data] →
    (status = 0x02 ↔ IllegalFrame cmd) ∧
    (status = 0x01 ↔ WrongLengthFrame cmd) ∧
    (status = 0x03 ↔ ContextFrame cmd ∧ s.valid = false) ∧
    (status = 0x00 ∨ status = 0x01 ∨ status = 0x02 ∨ status = 0x03) ∧
    (status ≠ 0x00 → data = [])

/-- R88: the length of the response on success, per command. -/
def Obligations.ResponseLengthOnSuccess : Prop :=
  ∀ (s t : State) (cmd : Frame) (rest : List HostInput) (i : Instr) (data : List Byte),
    s.busy = false → s.pending = .frame cmd :: rest → decode cmd = .ok i → step s = .next t →
    t.responses = s.responses ++ [0x00 :: data] →
    (∀ key nonce16, i = .deriveSubkey key nonce16 → data.length = 32) ∧
    (∀ key nonce, i = .newContext key nonce → data.length = 0) ∧
    (∀ counter, i = .setCounter counter → data.length = 0) ∧
    (∀ input, i = .transform input → data.length = input.length) ∧
    (∀ length, i = .keystream length → data.length = length.toNat)

/-- R230, R63: no step stops, and every command frame taken gets exactly one response, after those before it. -/
def Obligations.EveryFrameIsAnsweredOnce : Prop :=
  ∀ s : State, ∃ t, step s = .next t ∧
    ∀ cmd rest, s.pending = .frame cmd :: rest → s.busy = false →
      t.pending = rest ∧ t.busy = false ∧ ∃ response, t.responses = s.responses ++ [response]

/-- R261, R250: with nothing offered the CORE waits; its whole state stays. -/
def Obligations.IdleCoreWaits : Prop :=
  ∀ s : State, s.pending = [] → step s = .next s

/-- R268: a frame offered while BUSY = 1 is held back, not dropped, not answered, not started. That the whole state stays,
BUSY with it, is the model's choice for states that no run from reset reaches (log 1). -/
def Obligations.FrameIsHeldWhileBusy : Prop :=
  ∀ (s : State) (cmd : Frame) (rest : List HostInput),
    s.busy = true → s.pending = .frame cmd :: rest → step s = .next s

/-- R260, R262: reset, between commands or cutting one short: VALID = 0, BUSY = 0, no response to the command cut short.
That the frames still held by the transport stay is the model's choice (log 17). -/
def Obligations.ResetInputClearsFlags : Prop :=
  ∀ (s : State) (rest : List HostInput),
    (s.pending = .reset :: rest ∨ (∃ cmd, s.pending = .frameThenReset cmd :: rest ∧ s.busy = false)) →
    ∃ t, step s = .next t ∧ t.valid = false ∧ t.busy = false ∧ t.responses = s.responses ∧ t.pending = rest

/-- R37, the rows VALID and BUSY, with the invariant at reset. Nothing is said of CTX, J, X, KS, whose reset values are the
model's choice (log 3). -/
def Obligations.ResetStateIsIdleWithoutContext : Prop :=
  State.reset.valid = false ∧ State.reset.busy = false ∧ State.reset.Inv

/-! ### Whole-machine rules -/

/-- R22, R34: the invariant of the context and of BUSY is kept by every step. -/
def Obligations.StepKeepsInvariant : Prop :=
  ∀ s t : State, s.Inv → step s = .next t → t.Inv

/-- R28, R37, R207: no response and no later CTX depends on J, X, KS, nor on CTX while VALID = 0: states that agree on the
rest step to states that agree on the rest. -/
def Obligations.HiddenStateIsNeverObserved : Prop :=
  ∀ s t : State, s.Agree t → ∀ s', step s = .next s' → ∃ t', step t = .next t' ∧ s'.Agree t'

/-- R33: VALID is set by NEW_CONTEXT on status OK, cleared by reset, changed by nothing else. -/
def Obligations.ValidChangesOnlyByNewContextAndReset : Prop :=
  ∀ s t : State, step s = .next t →
    (t.valid ≠ s.valid →
      (t.valid = true ∧ ∃ cmd rest key nonce, s.pending = .frame cmd :: rest ∧ decode cmd = .ok (.newContext key nonce) ∧
        t.responses = s.responses ++ [[0x00]]) ∨
      (t.valid = false ∧
        ((∃ rest, s.pending = .reset :: rest) ∨ ∃ cmd rest, s.pending = .frameThenReset cmd :: rest))) ∧
    (∀ cmd rest key nonce, s.busy = false → s.pending = .frame cmd :: rest → decode cmd = .ok (.newContext key nonce) →
      t.valid = true)

/-- R22 (a), (b), (c): no frame but NEW_CONTEXT's writes CTX[0..11] or CTX[14..15], and COUNTER moves by one per block
generated or by SET_COUNTER. -/
def Obligations.ContextWordsAreImmutable : Prop :=
  ∀ (s t : State) (cmd : Frame) (rest : List HostInput),
    s.pending = .frame cmd :: rest → step s = .next t →
    (∀ key nonce, decode cmd ≠ .ok (.newContext key nonce)) →
    (∀ n : Fin 16, n ≠ 12 → n ≠ 13 → t.ctx[n.val] = s.ctx[n.val]) ∧
    (t.counter = s.counter ∨
      (∃ counter, decode cmd = .ok (.setCounter counter) ∧ t.counter = le64Dec counter) ∨
      (∃ input, decode cmd = .ok (.transform input) ∧
        t.counter = s.counter + BitVec.ofNat 64 ((input.length + 63) / 64)) ∨
      (∃ length, decode cmd = .ok (.keystream length) ∧
        t.counter = s.counter + BitVec.ofNat 64 ((length.toNat + 63) / 64)))

/-- R233 at the instruction: with VALID = 0 every name of SET_COUNTER, TRANSFORM and KEYSTREAM answers NoContext, even for
no input, and writes nothing; no name of DERIVE_SUBKEY or NEW_CONTEXT ever answers it. -/
def Obligations.NoContextUnderEveryName : Prop :=
  (∀ (i : Instr) (s : State), i.WellFormed → needsContext i = true → s.valid = false →
      exec i s = .next { s with responses := s.responses ++ [[0x03]], busy := false }) ∧
    (∀ (i : Instr) (s t : State), needsContext i = false → exec i s = .next t →
      t.responses ≠ s.responses ++ [[0x03]])

/-! ### The Word Codec -/

/-- R112: LE32_ENC and LE32_DEC are inverse. -/
def Obligations.WordCodecIsABijection : Prop :=
  (∀ b : Vector Byte 4, le32Enc (le32Dec b) = b) ∧ (∀ w : Word, le32Dec (le32Enc w) = w)

/-- R113, R114: the multi-word and 64-bit codecs: WORDS_ENC inverts WORDS_DEC, LE64_ENC and LE64_DEC are inverse, and
LE64_DEC(b) = lo + 2^32 * hi for (lo, hi) = CTR_DEC(b). -/
def Obligations.LongCodecsAgree : Prop :=
  (∀ b : Vector Byte 64, wordsEnc 64 (wordsDec 16 b) = b) ∧
    (∀ w : Words, wordsDec 16 (wordsEnc 64 w) = w) ∧
    (∀ b : Vector Byte 8, (le64Dec b).toNat = (ctrDec b).1.toNat + 2 ^ 32 * (ctrDec b).2.toNat) ∧
    (∀ b : Vector Byte 8, le64Enc (le64Dec b) = b) ∧
    (∀ v : BitVec 64, le64Dec (le64Enc v) = v)

/-- R53: byte k of a stored word is w[8k+7:8k], and a read word is the weighted sum of its bytes. -/
def Obligations.BytesOfAWordInPlace : Prop :=
  (∀ (w : Word) (k : Fin 4), (le32Enc w)[k.val].toNat = w.toNat / 2 ^ (8 * k.val) % 256) ∧
    (∀ b : Vector Byte 4, (le32Dec b).toNat =
      b[0].toNat + 2 ^ 8 * b[1].toNat + 2 ^ 16 * b[2].toNat + 2 ^ 24 * b[3].toNat)

/-- R116: the four constant words. The values are the spec's from general knowledge (log 12). -/
def Obligations.ConstantWordsAreExpand32ByteK : Prop :=
  constWords = #v[0x61707865, 0x3320646E, 0x79622D32, 0x6B206574]

/-! ### The Permutation Core -/

/-- R132: ROTL32 moves bit k to bit (k + n) mod 32, is the formula of the rule, and loses no bit. -/
def Obligations.RotationMovesBits : Prop :=
  ∀ (v : Word) (n : Nat), 1 ≤ n → n ≤ 31 →
    (∀ k : Nat, k < 32 → (rotl32 v n).getLsbD ((k + n) % 32) = v.getLsbD k) ∧
    (rotl32 v n).toNat = v.toNat * 2 ^ n % 2 ^ 32 + v.toNat / 2 ^ (32 - n) ∧
    rotl32 (rotl32 v n) (32 - n) = v

/-- R134: the quarter round on four distinct slots: the four words it leaves, and no other slot touched. -/
def Obligations.QuarterRoundWords : Prop :=
  ∀ (x : Words) (a b c d : Fin 16), [a, b, c, d].Nodup →
    let a1 := x[a] + x[b]
    let d1 := rotl32 (x[d] ^^^ a1) 16
    let c1 := x[c] + d1
    let b1 := rotl32 (x[b] ^^^ c1) 12
    let a2 := a1 + b1
    let d2 := rotl32 (d1 ^^^ a2) 8
    let c2 := c1 + d2
    let b2 := rotl32 (b1 ^^^ c2) 7
    let y := qr a b c d x
    y[a] = a2 ∧ y[b] = b2 ∧ y[c] = c2 ∧ y[d] = d2 ∧
      ∀ k : Fin 16, k ∉ [a, b, c, d] → y[k] = x[k]

/-- R137: the quadruples of a round cover the sixteen indices once each; the four quarter rounds of a round commute, any
order giving the round's result; and four parallel units give it too, each reading the X the round starts from: every slot of a
quadruple holds what QR of that quadruple alone leaves there. -/
def Obligations.LanesOfARoundCommute : Prop :=
  (columns.flatMap fun q => [q.1, q.2.1, q.2.2.1, q.2.2.2]).Perm (List.finRange 16) ∧
    (diagonals.flatMap fun q => [q.1, q.2.1, q.2.2.1, q.2.2.2]).Perm (List.finRange 16) ∧
    (∀ (order : List Quad) (x : Words), order.Perm columns → order.foldl qrAt x = columnRound x) ∧
    (∀ (order : List Quad) (x : Words), order.Perm diagonals → order.foldl qrAt x = diagonalRound x) ∧
    (∀ (x : Words) (q : Quad), q ∈ columns → ∀ k ∈ [q.1, q.2.1, q.2.2.1, q.2.2.2],
      (columnRound x)[k] = (qrAt x q)[k]) ∧
    (∀ (x : Words) (q : Quad), q ∈ diagonals → ∀ k ∈ [q.1, q.2.1, q.2.2.1, q.2.2.2],
      (diagonalRound x)[k] = (qrAt x q)[k])

/-- R139: PERMUTE is a bijection on 16-word tuples and fixes the all-zero state. -/
def Obligations.PermutationIsABijection : Prop :=
  Function.Bijective permute ∧ permute (Vector.replicate 16 0) = Vector.replicate 16 0

/-! ### HChaCha20 and DERIVE_SUBKEY -/

/-- R163: for every key and nonce the subkey differs from what a derivation with feed-forward would give. -/
def Obligations.SubkeyHasNoFeedForward : Prop :=
  ∀ (key : Vector Byte 32) (nonce16 : Vector Byte 16),
    hchacha20 key nonce16 ≠
      subkeyBytes (addWords (permute (hchachaLoad key nonce16)) (hchachaLoad key nonce16))

/-- R160, the published HChaCha20 vector (95_test_vectors.md V30). -/
def Obligations.PublishedSubkey : Prop :=
  hchacha20 (Vector.ofFn fun i => BitVec.ofNat 8 i.val)
      #v[0, 0, 0, 0x09, 0, 0, 0, 0x4A, 0, 0, 0, 0, 0x31, 0x41, 0x59, 0x27] =
    #v[0x82, 0x41, 0x3B, 0x42, 0x27, 0xB2, 0x7B, 0xFE, 0xD3, 0x0E, 0x42, 0x50, 0x8A, 0x87, 0x7D, 0x73,
       0xA0, 0xF9, 0xE4, 0xD5, 0x8A, 0x74, 0xA8, 0x53, 0xC1, 0x2E, 0xC4, 0x13, 0x26, 0xD3, 0xEC, 0xDC]

/-- R162, R164, R165: DERIVE_SUBKEY completes in every state: the response is the bytes of permuted words 0 to 3 and 12 to
15, little-endian; CTX, VALID, J and KS are untouched. -/
def Obligations.DeriveSubkeyResult : Prop :=
  ∀ (s : State) (key : Vector Byte 32) (nonce16 : Vector Byte 16),
    ∃ (t : State) (subkey : Vector Byte 32),
      exec (.deriveSubkey key nonce16) s = .next t ∧
      t.responses = s.responses ++ [0x00 :: subkey.toList] ∧
      (∀ p : Fin 16,
        subkey[p.val] = (permute (hchachaLoad key nonce16))[p.val / 4].extractLsb' (8 * (p.val % 4)) 8 ∧
        subkey[p.val + 16] =
          (permute (hchachaLoad key nonce16))[p.val / 4 + 12].extractLsb' (8 * (p.val % 4)) 8) ∧
      t.ctx = s.ctx ∧ t.valid = s.valid ∧ t.j = s.j ∧ t.ks = s.ks ∧ t.pending = s.pending ∧ t.busy = false

/-! ### Context setup -/

/-- R175 to R178: NEW_CONTEXT (also INIT) completes in every state: VALID = 1, all sixteen words of CTX written, the subkey
words being permuted words 0 to 3 and 12 to 15, the counter 0, the nonce suffix decoded; J and KS untouched. -/
def Obligations.NewContextResult : Prop :=
  ∀ (s : State) (key : Vector Byte 32) (nonce : Vector Byte 24) (i : Instr),
    i = .newContext key nonce ∨ i = .init key nonce →
    ∃ t : State, exec i s = .next t ∧
      t.responses = s.responses ++ [[0x00]] ∧ t.valid = true ∧
      (∀ n : Fin 4, t.ctx[n.val] = constWords[n.val] ∧
        t.ctx[4 + n.val] = (permute (hchachaLoad key (slice nonce 0 16)))[n.val] ∧
        t.ctx[8 + n.val] = (permute (hchachaLoad key (slice nonce 0 16)))[12 + n.val]) ∧
      t.ctx[12] = 0 ∧ t.ctx[13] = 0 ∧
      t.ctx[14] = le32Dec (slice nonce 16 4) ∧ t.ctx[15] = le32Dec (slice nonce 20 4) ∧
      t.j = s.j ∧ t.ks = s.ks ∧ t.pending = s.pending ∧ t.busy = false

/-- R29, R179: two NEW_CONTEXTs whose subkeys and nonce suffixes are the same leave the same CTX: key and nonce prefix
survive through the subkey alone. -/
def Obligations.KeySurvivesOnlyInTheSubkey : Prop :=
  ∀ (s s' : State) (key key' : Vector Byte 32) (nonce nonce' : Vector Byte 24),
    hchacha20 key (slice nonce 0 16) = hchacha20 key' (slice nonce' 0 16) →
    slice nonce 16 8 = slice nonce' 16 8 →
    ∃ t t', exec (.newContext key nonce) s = .next t ∧ exec (.newContext key' nonce') s' = .next t' ∧
      t.ctx = t'.ctx ∧ t.valid = t'.valid

/-- R180: SET_COUNTER with VALID = 1 completes: COUNTER is LE64_DEC of the operand, CTX[12] its low and CTX[13] its high
word; nothing else changes but the response and BUSY. -/
def Obligations.SetCounterResult : Prop :=
  ∀ (s : State) (counter : Vector Byte 8), s.valid = true →
    ∃ t : State, exec (.setCounter counter) s = .next t ∧
      t = { s with ctx := t.ctx, responses := s.responses ++ [[0x00]], busy := false } ∧
      t.ctx[12] = le32Dec (slice counter 0 4) ∧ t.ctx[13] = le32Dec (slice counter 4 4) ∧
      t.counter = le64Dec counter ∧
      ∀ n : Fin 16, n ≠ 12 → n ≠ 13 → t.ctx[n.val] = s.ctx[n.val]

/-! ### The Stream Engine -/

/-- R21: COUNTER is CTX[13] * 2^32 + CTX[12], and `withCounter` replaces it and nothing else. -/
def Obligations.CounterIsTheWordPair : Prop :=
  ∀ ctx : Words, (counterOf ctx).toNat = ctx[13].toNat * 2 ^ 32 + ctx[12].toNat ∧
    withCounter ctx (counterOf ctx) = ctx ∧
    ∀ v, counterOf (withCounter ctx v) = v ∧
      ∀ n : Fin 16, n ≠ 12 → n ≠ 13 → (withCounter ctx v)[n.val] = ctx[n.val]

/-- R203: COUNTER_INC is COUNTER + 1 mod 2^64 and writes CTX[12], CTX[13] only; the carry goes into the high word exactly
when the low word wraps. -/
def Obligations.CounterIncrementCarries : Prop :=
  ∀ s : State,
    s.counterInc.counter = s.counter + 1 ∧
    s.counterInc = { s with ctx := withCounter s.ctx (s.counter + 1) } ∧
    (s.ctx[12] = 0xFFFFFFFF → s.counterInc.ctx[12] = 0 ∧ s.counterInc.ctx[13] = s.ctx[13] + 1) ∧
    (s.ctx[12] ≠ 0xFFFFFFFF → s.counterInc.ctx[12] = s.ctx[12] + 1 ∧ s.counterInc.ctx[13] = s.ctx[13])

/-- R195 to R198: after BLOCK, keystream byte p in KS is byte p mod 4 of permuted plus snapshot word floor(p/4); CTX and
the flags are unchanged. -/
def Obligations.BlockKeystreamBytes : Prop :=
  ∀ (s : State) (p : Fin 64),
    s.block.ks[p.val] =
      ((permute s.ctx)[p.val / 4] + s.ctx[p.val / 4]).extractLsb' (8 * (p.val % 4)) 8 ∧
    s.block.ks = ksBlock s.ctx ∧ s.block.j = s.ctx ∧
    s.block.ctx = s.ctx ∧ s.block.valid = s.valid ∧ s.block.busy = s.busy ∧ s.block.responses = s.responses

/-- R200, R201, R202, R210: TRANSFORM, ENCRYPT and DECRYPT with VALID = 1 complete for every input, the closed form of the
output, the counter's advance by ceil(n/64), and everything else CTX and the flags hold. -/
def Obligations.TransformClosedForm : Prop :=
  ∀ (s : State) (input : List Byte) (i : Instr), s.valid = true →
    i = .transform input ∨ i = .encrypt input ∨ i = .decrypt input →
    ∃ (t : State) (output : List Byte), exec i s = .next t ∧
      t.responses = s.responses ++ [0x00 :: output] ∧ output.length = input.length ∧
      (∀ q : Nat, ∀ h : q < input.length, ∀ h' : q < output.length,
        output[q] = input[q] ^^^
          (ksBlock (withCounter s.ctx (s.counter + BitVec.ofNat 64 (q / 64))))[q % 64]'(Nat.mod_lt _ (by decide))) ∧
      t.ctx = withCounter s.ctx (s.counter + BitVec.ofNat 64 ((input.length + 63) / 64)) ∧
      t.counter = s.counter + BitVec.ofNat 64 ((input.length + 63) / 64) ∧
      t.valid = true ∧ t.pending = s.pending ∧ t.busy = false

/-- R205: KEYSTREAM with VALID = 1 completes for every length: the keystream bytes themselves, the counter's advance, and
the same next state as TRANSFORM of that many zero bytes. -/
def Obligations.KeystreamClosedForm : Prop :=
  ∀ (s : State) (length : BitVec 64), s.valid = true →
    ∃ (t : State) (output : List Byte), exec (.keystream length) s = .next t ∧
      exec (.transform (List.replicate length.toNat 0)) s = .next t ∧
      t.responses = s.responses ++ [0x00 :: output] ∧ output.length = length.toNat ∧
      (∀ q : Nat, ∀ h : q < output.length,
        output[q] =
          (ksBlock (withCounter s.ctx (s.counter + BitVec.ofNat 64 (q / 64))))[q % 64]'(Nat.mod_lt _ (by decide))) ∧
      t.ctx = withCounter s.ctx (s.counter + BitVec.ofNat 64 ((length.toNat + 63) / 64)) ∧
      t.valid = true ∧ t.pending = s.pending ∧ t.busy = false

/-- R204: a zero-length TRANSFORM or KEYSTREAM answers status OK alone and changes nothing; without a context it answers
NoContext. -/
def Obligations.ZeroLengthIsANoOp : Prop :=
  ∀ (s : State) (i : Instr), i = .transform [] ∨ i = .keystream 0 →
    (s.valid = true → exec i s = .next { s with responses := s.responses ++ [[0x00]], busy := false }) ∧
    (s.valid = false → exec i s = .next { s with responses := s.responses ++ [[0x03]], busy := false })

/-- R95: the block-count pseudo-commands. With VALID = 1 and the assembler's condition met each completes as its expansion,
advancing COUNTER by the count; where the condition fails each is refused, by name. -/
def Obligations.BlockCountCommands : Prop :=
  (∀ (s : State) (blocks : Nat) (input : List Byte) (i : Instr),
      i = .encryptBlocks blocks input ∨ i = .decryptBlocks blocks input →
      (s.valid = true → input.length = 64 * blocks →
        ∃ t output, exec i s = .next t ∧ exec (.transform input) s = .next t ∧
          t.responses = s.responses ++ [0x00 :: output] ∧ output.length = 64 * blocks ∧
          t.counter = s.counter + BitVec.ofNat 64 blocks ∧ t.valid = true ∧ t.busy = false) ∧
      (input.length ≠ 64 * blocks → exec i s = .refused .blockCountMismatch)) ∧
    (∀ (s : State) (blocks : Nat),
      (s.valid = true → blocks ≤ 2 ^ 58 - 1 →
        ∃ t output, exec (.keystreamBlocks blocks) s = .next t ∧
          exec (.keystream (BitVec.ofNat 64 (64 * blocks))) s = .next t ∧
          t.responses = s.responses ++ [0x00 :: output] ∧ output.length = 64 * blocks ∧
          t.counter = s.counter + BitVec.ofNat 64 blocks ∧ t.valid = true ∧ t.busy = false) ∧
      (¬ blocks ≤ 2 ^ 58 - 1 → exec (.keystreamBlocks blocks) s = .refused .blockCountTooLarge))

/-- R206: NEW_CONTEXT, SET_COUNTER and TRANSFORM of m give e; the same NEW_CONTEXT and SET_COUNTER, in any later or other
state, and TRANSFORM of e give m back. -/
def Obligations.RoundTripRestoresTheMessage : Prop :=
  ∀ (s : State) (key : Vector Byte 32) (nonce : Vector Byte 24) (counter : Vector Byte 8) (message : List Byte),
    ∃ s1 s2 s3 cipher, exec (.newContext key nonce) s = .next s1 ∧ exec (.setCounter counter) s1 = .next s2 ∧
      exec (.transform message) s2 = .next s3 ∧ s3.responses = s2.responses ++ [0x00 :: cipher] ∧
      ∀ r : State, ∃ r1 r2 r3, exec (.newContext key nonce) r = .next r1 ∧ exec (.setCounter counter) r1 = .next r2 ∧
        exec (.transform cipher) r2 = .next r3 ∧ r3.responses = r2.responses ++ [0x00 :: message] ∧
        r3.ctx = s3.ctx

/-- R208, the case that holds: cut at a multiple of 64, two TRANSFORMs give the bytes and the context of one. -/
def Obligations.SplitAtABlockBoundary : Prop :=
  ∀ (s : State) (first second : List Byte), s.valid = true → 64 ∣ first.length →
    ∃ t t1 t2 output1 output2,
      exec (.transform (first ++ second)) s = .next t ∧
      exec (.transform first) s = .next t1 ∧ exec (.transform second) t1 = .next t2 ∧
      t1.responses = s.responses ++ [0x00 :: output1] ∧ t2.responses = t1.responses ++ [0x00 :: output2] ∧
      t.responses = s.responses ++ [0x00 :: (output1 ++ output2)] ∧ t2.ctx = t.ctx

/-- R208, the counter in the other case: cut off a block boundary, the two commands advance COUNTER by one block more than
the single command exactly when the two partial blocks fit one block together. -/
def Obligations.SplitOffABlockBoundaryCountsMore : Prop :=
  ∀ (s : State) (first second : List Byte), s.valid = true → first.length % 64 ≠ 0 →
    ∃ t t1 t2, exec (.transform (first ++ second)) s = .next t ∧
      exec (.transform first) s = .next t1 ∧ exec (.transform second) t1 = .next t2 ∧
      t2.counter = t.counter +
        (if second.length % 64 ≠ 0 ∧ first.length % 64 + second.length % 64 ≤ 64 then 1 else 0)

/-- R59: NEW_CONTEXT twice and SET_COUNTER twice leave the CTX and VALID of once. -/
def Obligations.SetupIsIdempotent : Prop :=
  (∀ (s : State) (key : Vector Byte 32) (nonce : Vector Byte 24),
      ∃ t t', exec (.newContext key nonce) s = .next t ∧ exec (.newContext key nonce) t = .next t' ∧
        t'.ctx = t.ctx ∧ t'.valid = t.valid) ∧
    (∀ (s : State) (counter : Vector Byte 8), s.valid = true →
      ∃ t t', exec (.setCounter counter) s = .next t ∧ exec (.setCounter counter) t = .next t' ∧
        t'.ctx = t.ctx ∧ t'.valid = t.valid)
end

