-- ==== Sys2Proof/Laws/Codec.lean ====
section
/-! SUPPORT. What each function of the Word Codec puts where: one lemma per function, byte by byte or word by word. -/

namespace Sys2Proof.Machine

theorem slice_getElem {n : Nat} (b : Vector Byte n) (off len : Nat) (h : off + len ≤ n) (i : Nat) (hi : i < len) :
    (slice b off len h)[i] = b[off + i] := by
  simp [slice]

theorem slice_slice {n : Nat} (b : Vector Byte n) (off len off' len' : Nat) (h : off + len ≤ n) (h' : off' + len' ≤ len) :
    slice (slice b off len h) off' len' h' = slice b (off + off') len' (by omega) := by
  apply Vector.ext
  intro i hi
  simp only [slice_getElem, Nat.add_assoc]

theorem le32Enc_getElem (w : Word) (k : Nat) (hk : k < 4) : (le32Enc w)[k] = w.extractLsb' (8 * k) 8 := by
  match k, hk with
  | 0, _ => rfl
  | 1, _ => rfl
  | 2, _ => rfl
  | 3, _ => rfl

theorem le64Enc_getElem (v : BitVec 64) (k : Nat) (hk : k < 8) : (le64Enc v)[k] = v.extractLsb' (8 * k) 8 := by
  simp [le64Enc]

theorem wordsDec_getElem {n : Nat} (k : Nat) (b : Vector Byte n) (h : 4 * k ≤ n) (i : Nat) (hi : i < k) :
    (wordsDec k b h)[i] = le32Dec (slice b (4 * i) 4 (by omega)) := by
  simp [wordsDec]

theorem wordsEnc_getElem {k : Nat} (n : Nat) (w : Vector Word k) (h : n ≤ 4 * k) (p : Nat) (hp : p < n) :
    (wordsEnc n w h)[p] = (w[p / 4]).extractLsb' (8 * (p % 4)) 8 := by
  simp only [wordsEnc, Vector.getElem_ofFn, le32Enc_getElem]

theorem ctrDec_eq (b : Vector Byte 8) : ctrDec b = (le32Dec (slice b 0 4), le32Dec (slice b 4 4)) := by
  simp only [ctrDec, wordsDec_getElem]

theorem field_getElem (cmd : Frame) (off len i : Nat) (hi : i < len) : (field cmd off len)[i] = cmd.getD (off + i) 0 := by
  simp [field]

/-- A field is the bytes that stand in the frame after the bytes before it. -/
theorem field_of_append (before after : List Byte) (n : Nat) (v : Vector Byte n) :
    field (before ++ v.toList ++ after) before.length n = v := by
  apply Vector.ext
  intro i hi
  have e : before.length + i - before.length = i := by omega
  rw [field_getElem, List.append_assoc, List.getD_append_right _ _ _ _ (by omega), e,
    List.getD_append _ _ _ _ (by simpa using hi)]
  simp [List.getD_eq_getElem?_getD, hi]

end Sys2Proof.Machine
end

