-- ==== Sys2Proof/Laws/State.lean ====
section
/-! SUPPORT. One lemma per field per update of State: what each named operation of Ops.lean and Flags.lean writes, and that it
writes nothing else. -/

namespace Sys2Proof.Machine

/-! ### State.accept -/

@[simp] theorem State.accept_ctx (rest : List HostInput) (s : State) : (s.accept rest).ctx = s.ctx := rfl
@[simp] theorem State.accept_valid (rest : List HostInput) (s : State) : (s.accept rest).valid = s.valid := rfl
@[simp] theorem State.accept_busy (rest : List HostInput) (s : State) : (s.accept rest).busy = true := rfl
@[simp] theorem State.accept_j (rest : List HostInput) (s : State) : (s.accept rest).j = s.j := rfl
@[simp] theorem State.accept_x (rest : List HostInput) (s : State) : (s.accept rest).x = s.x := rfl
@[simp] theorem State.accept_ks (rest : List HostInput) (s : State) : (s.accept rest).ks = s.ks := rfl
@[simp] theorem State.accept_pending (rest : List HostInput) (s : State) : (s.accept rest).pending = rest := rfl
@[simp] theorem State.accept_responses (rest : List HostInput) (s : State) :
    (s.accept rest).responses = s.responses := rfl
@[simp] theorem State.accept_freeCount (rest : List HostInput) (s : State) :
    (s.accept rest).freeCount = s.freeCount := rfl

/-! ### State.respond -/

@[simp] theorem State.respond_ctx (status : Byte) (data : List Byte) (s : State) :
    (s.respond status data).ctx = s.ctx := rfl
@[simp] theorem State.respond_valid (status : Byte) (data : List Byte) (s : State) :
    (s.respond status data).valid = s.valid := rfl
@[simp] theorem State.respond_busy (status : Byte) (data : List Byte) (s : State) :
    (s.respond status data).busy = false := rfl
@[simp] theorem State.respond_j (status : Byte) (data : List Byte) (s : State) :
    (s.respond status data).j = s.j := rfl
@[simp] theorem State.respond_x (status : Byte) (data : List Byte) (s : State) :
    (s.respond status data).x = s.x := rfl
@[simp] theorem State.respond_ks (status : Byte) (data : List Byte) (s : State) :
    (s.respond status data).ks = s.ks := rfl
@[simp] theorem State.respond_pending (status : Byte) (data : List Byte) (s : State) :
    (s.respond status data).pending = s.pending := rfl
@[simp] theorem State.respond_responses (status : Byte) (data : List Byte) (s : State) :
    (s.respond status data).responses = s.responses ++ [status :: data] := rfl
@[simp] theorem State.respond_freeCount (status : Byte) (data : List Byte) (s : State) :
    (s.respond status data).freeCount = s.freeCount := rfl

/-! ### State.complete -/

@[simp] theorem State.complete_ctx (data : List Byte) (s : State) : (s.complete data).ctx = s.ctx := rfl
@[simp] theorem State.complete_valid (data : List Byte) (s : State) : (s.complete data).valid = s.valid := rfl
@[simp] theorem State.complete_busy (data : List Byte) (s : State) : (s.complete data).busy = false := rfl
@[simp] theorem State.complete_j (data : List Byte) (s : State) : (s.complete data).j = s.j := rfl
@[simp] theorem State.complete_x (data : List Byte) (s : State) : (s.complete data).x = s.x := rfl
@[simp] theorem State.complete_ks (data : List Byte) (s : State) : (s.complete data).ks = s.ks := rfl
@[simp] theorem State.complete_pending (data : List Byte) (s : State) : (s.complete data).pending = s.pending := rfl
@[simp] theorem State.complete_responses (data : List Byte) (s : State) :
    (s.complete data).responses = s.responses ++ [statusOk :: data] := rfl
@[simp] theorem State.complete_freeCount (data : List Byte) (s : State) :
    (s.complete data).freeCount = s.freeCount := rfl

/-! ### State.raise -/

@[simp] theorem State.raise_ctx (e : CommandError) (s : State) : (s.raise e).ctx = s.ctx := rfl
@[simp] theorem State.raise_valid (e : CommandError) (s : State) : (s.raise e).valid = s.valid := rfl
@[simp] theorem State.raise_busy (e : CommandError) (s : State) : (s.raise e).busy = false := rfl
@[simp] theorem State.raise_j (e : CommandError) (s : State) : (s.raise e).j = s.j := rfl
@[simp] theorem State.raise_x (e : CommandError) (s : State) : (s.raise e).x = s.x := rfl
@[simp] theorem State.raise_ks (e : CommandError) (s : State) : (s.raise e).ks = s.ks := rfl
@[simp] theorem State.raise_pending (e : CommandError) (s : State) : (s.raise e).pending = s.pending := rfl
@[simp] theorem State.raise_responses (e : CommandError) (s : State) :
    (s.raise e).responses = s.responses ++ [[errorCode e]] := rfl
@[simp] theorem State.raise_freeCount (e : CommandError) (s : State) : (s.raise e).freeCount = s.freeCount := rfl

/-! ### State.resetInput -/

@[simp] theorem State.resetInput_ctx (s : State) : s.resetInput.ctx = Config.freeWords s.freeCount := rfl
@[simp] theorem State.resetInput_valid (s : State) : s.resetInput.valid = false := rfl
@[simp] theorem State.resetInput_busy (s : State) : s.resetInput.busy = false := rfl
@[simp] theorem State.resetInput_j (s : State) : s.resetInput.j = Config.freeWords (s.freeCount + 1) := rfl
@[simp] theorem State.resetInput_x (s : State) : s.resetInput.x = Config.freeWords (s.freeCount + 2) := rfl
@[simp] theorem State.resetInput_ks (s : State) : s.resetInput.ks = Config.freeBytes s.freeCount := rfl
@[simp] theorem State.resetInput_pending (s : State) : s.resetInput.pending = s.pending := rfl
@[simp] theorem State.resetInput_responses (s : State) : s.resetInput.responses = s.responses := rfl
@[simp] theorem State.resetInput_freeCount (s : State) : s.resetInput.freeCount = s.freeCount + 3 := rfl

/-! ### State.runHchacha -/

@[simp] theorem State.runHchacha_ctx (k : Vector Byte 32) (n : Vector Byte 16) (s : State) :
    (s.runHchacha k n).ctx = s.ctx := by cases s; rfl
@[simp] theorem State.runHchacha_valid (k : Vector Byte 32) (n : Vector Byte 16) (s : State) :
    (s.runHchacha k n).valid = s.valid := by cases s; rfl
@[simp] theorem State.runHchacha_busy (k : Vector Byte 32) (n : Vector Byte 16) (s : State) :
    (s.runHchacha k n).busy = s.busy := by cases s; rfl
@[simp] theorem State.runHchacha_j (k : Vector Byte 32) (n : Vector Byte 16) (s : State) :
    (s.runHchacha k n).j = s.j := by cases s; rfl
@[simp] theorem State.runHchacha_x (k : Vector Byte 32) (n : Vector Byte 16) (s : State) :
    (s.runHchacha k n).x = permute (hchachaLoad k n) := by cases s; rfl
@[simp] theorem State.runHchacha_ks (k : Vector Byte 32) (n : Vector Byte 16) (s : State) :
    (s.runHchacha k n).ks = s.ks := by cases s; rfl
@[simp] theorem State.runHchacha_pending (k : Vector Byte 32) (n : Vector Byte 16) (s : State) :
    (s.runHchacha k n).pending = s.pending := by cases s; rfl
@[simp] theorem State.runHchacha_responses (k : Vector Byte 32) (n : Vector Byte 16) (s : State) :
    (s.runHchacha k n).responses = s.responses := by cases s; rfl
@[simp] theorem State.runHchacha_freeCount (k : Vector Byte 32) (n : Vector Byte 16) (s : State) :
    (s.runHchacha k n).freeCount = s.freeCount := by cases s; rfl

/-! ### State.retireX -/

@[simp] theorem State.retireX_ctx (s : State) : s.retireX.ctx = s.ctx := rfl
@[simp] theorem State.retireX_valid (s : State) : s.retireX.valid = s.valid := rfl
@[simp] theorem State.retireX_busy (s : State) : s.retireX.busy = s.busy := rfl
@[simp] theorem State.retireX_j (s : State) : s.retireX.j = s.j := rfl
@[simp] theorem State.retireX_x (s : State) : s.retireX.x = Config.freeWords s.freeCount := rfl
@[simp] theorem State.retireX_ks (s : State) : s.retireX.ks = s.ks := rfl
@[simp] theorem State.retireX_pending (s : State) : s.retireX.pending = s.pending := rfl
@[simp] theorem State.retireX_responses (s : State) : s.retireX.responses = s.responses := rfl
@[simp] theorem State.retireX_freeCount (s : State) : s.retireX.freeCount = s.freeCount + 1 := rfl

/-! ### State.counterInc -/

@[simp] theorem State.counterInc_ctx (s : State) : s.counterInc.ctx = counterIncWords s.ctx := by cases s; rfl
@[simp] theorem State.counterInc_valid (s : State) : s.counterInc.valid = s.valid := by cases s; rfl
@[simp] theorem State.counterInc_busy (s : State) : s.counterInc.busy = s.busy := by cases s; rfl
@[simp] theorem State.counterInc_j (s : State) : s.counterInc.j = s.j := by cases s; rfl
@[simp] theorem State.counterInc_x (s : State) : s.counterInc.x = s.x := by cases s; rfl
@[simp] theorem State.counterInc_ks (s : State) : s.counterInc.ks = s.ks := by cases s; rfl
@[simp] theorem State.counterInc_pending (s : State) : s.counterInc.pending = s.pending := by cases s; rfl
@[simp] theorem State.counterInc_responses (s : State) : s.counterInc.responses = s.responses := by cases s; rfl
@[simp] theorem State.counterInc_freeCount (s : State) : s.counterInc.freeCount = s.freeCount := by cases s; rfl

/-! ### State.snapshot -/

@[simp] theorem State.snapshot_ctx (s : State) : s.snapshot.ctx = s.ctx := rfl
@[simp] theorem State.snapshot_valid (s : State) : s.snapshot.valid = s.valid := rfl
@[simp] theorem State.snapshot_busy (s : State) : s.snapshot.busy = s.busy := rfl
@[simp] theorem State.snapshot_j (s : State) : s.snapshot.j = s.ctx := rfl
@[simp] theorem State.snapshot_x (s : State) : s.snapshot.x = s.ctx := rfl
@[simp] theorem State.snapshot_ks (s : State) : s.snapshot.ks = s.ks := rfl
@[simp] theorem State.snapshot_pending (s : State) : s.snapshot.pending = s.pending := rfl
@[simp] theorem State.snapshot_responses (s : State) : s.snapshot.responses = s.responses := rfl
@[simp] theorem State.snapshot_freeCount (s : State) : s.snapshot.freeCount = s.freeCount := rfl

/-! ### State.permuteX -/

@[simp] theorem State.permuteX_ctx (s : State) : s.permuteX.ctx = s.ctx := by cases s; rfl
@[simp] theorem State.permuteX_valid (s : State) : s.permuteX.valid = s.valid := by cases s; rfl
@[simp] theorem State.permuteX_busy (s : State) : s.permuteX.busy = s.busy := by cases s; rfl
@[simp] theorem State.permuteX_j (s : State) : s.permuteX.j = s.j := by cases s; rfl
@[simp] theorem State.permuteX_x (s : State) : s.permuteX.x = permute s.x := by cases s; rfl
@[simp] theorem State.permuteX_ks (s : State) : s.permuteX.ks = s.ks := by cases s; rfl
@[simp] theorem State.permuteX_pending (s : State) : s.permuteX.pending = s.pending := by cases s; rfl
@[simp] theorem State.permuteX_responses (s : State) : s.permuteX.responses = s.responses := by cases s; rfl
@[simp] theorem State.permuteX_freeCount (s : State) : s.permuteX.freeCount = s.freeCount := by cases s; rfl

/-! ### State.feedForward -/

@[simp] theorem State.feedForward_ctx (s : State) : s.feedForward.ctx = s.ctx := by cases s; rfl
@[simp] theorem State.feedForward_valid (s : State) : s.feedForward.valid = s.valid := by cases s; rfl
@[simp] theorem State.feedForward_busy (s : State) : s.feedForward.busy = s.busy := by cases s; rfl
@[simp] theorem State.feedForward_j (s : State) : s.feedForward.j = s.j := by cases s; rfl
@[simp] theorem State.feedForward_x (s : State) : s.feedForward.x = addWords s.x s.j := by cases s; rfl
@[simp] theorem State.feedForward_ks (s : State) : s.feedForward.ks = s.ks := by cases s; rfl
@[simp] theorem State.feedForward_pending (s : State) : s.feedForward.pending = s.pending := by cases s; rfl
@[simp] theorem State.feedForward_responses (s : State) : s.feedForward.responses = s.responses := by cases s; rfl
@[simp] theorem State.feedForward_freeCount (s : State) : s.feedForward.freeCount = s.freeCount := by cases s; rfl

/-! ### State.serialize -/

@[simp] theorem State.serialize_ctx (s : State) : s.serialize.ctx = s.ctx := by cases s; rfl
@[simp] theorem State.serialize_valid (s : State) : s.serialize.valid = s.valid := by cases s; rfl
@[simp] theorem State.serialize_busy (s : State) : s.serialize.busy = s.busy := by cases s; rfl
@[simp] theorem State.serialize_j (s : State) : s.serialize.j = s.j := by cases s; rfl
@[simp] theorem State.serialize_x (s : State) : s.serialize.x = s.x := by cases s; rfl
@[simp] theorem State.serialize_ks (s : State) : s.serialize.ks = wordsEnc 64 s.x := by cases s; rfl
@[simp] theorem State.serialize_pending (s : State) : s.serialize.pending = s.pending := by cases s; rfl
@[simp] theorem State.serialize_responses (s : State) : s.serialize.responses = s.responses := by cases s; rfl
@[simp] theorem State.serialize_freeCount (s : State) : s.serialize.freeCount = s.freeCount := by cases s; rfl

/-! ### State.block -/

@[simp] theorem State.block_ctx (s : State) : s.block.ctx = s.ctx := by cases s; rfl
@[simp] theorem State.block_valid (s : State) : s.block.valid = s.valid := by cases s; rfl
@[simp] theorem State.block_busy (s : State) : s.block.busy = s.busy := by cases s; rfl
@[simp] theorem State.block_j (s : State) : s.block.j = s.ctx := by cases s; rfl
@[simp] theorem State.block_x (s : State) : s.block.x = addWords (permute s.ctx) s.ctx := by cases s; rfl
@[simp] theorem State.block_ks (s : State) : s.block.ks = ksBlock s.ctx := by cases s; rfl
@[simp] theorem State.block_pending (s : State) : s.block.pending = s.pending := by cases s; rfl
@[simp] theorem State.block_responses (s : State) : s.block.responses = s.responses := by cases s; rfl
@[simp] theorem State.block_freeCount (s : State) : s.block.freeCount = s.freeCount := by cases s; rfl

/-! ### State.retireBlock -/

@[simp] theorem State.retireBlock_ctx (s : State) : s.retireBlock.ctx = s.ctx := rfl
@[simp] theorem State.retireBlock_valid (s : State) : s.retireBlock.valid = s.valid := rfl
@[simp] theorem State.retireBlock_busy (s : State) : s.retireBlock.busy = s.busy := rfl
@[simp] theorem State.retireBlock_j (s : State) : s.retireBlock.j = Config.freeWords s.freeCount := rfl
@[simp] theorem State.retireBlock_x (s : State) : s.retireBlock.x = Config.freeWords (s.freeCount + 1) := rfl
@[simp] theorem State.retireBlock_ks (s : State) : s.retireBlock.ks = Config.freeBytes s.freeCount := rfl
@[simp] theorem State.retireBlock_pending (s : State) : s.retireBlock.pending = s.pending := rfl
@[simp] theorem State.retireBlock_responses (s : State) : s.retireBlock.responses = s.responses := rfl
@[simp] theorem State.retireBlock_freeCount (s : State) : s.retireBlock.freeCount = s.freeCount + 2 := rfl

/-! ### State.setValid -/

@[simp] theorem State.setValid_ctx (s : State) : s.setValid.ctx = s.ctx := rfl
@[simp] theorem State.setValid_valid (s : State) : s.setValid.valid = true := rfl
@[simp] theorem State.setValid_busy (s : State) : s.setValid.busy = s.busy := rfl
@[simp] theorem State.setValid_j (s : State) : s.setValid.j = s.j := rfl
@[simp] theorem State.setValid_x (s : State) : s.setValid.x = s.x := rfl
@[simp] theorem State.setValid_ks (s : State) : s.setValid.ks = s.ks := rfl
@[simp] theorem State.setValid_pending (s : State) : s.setValid.pending = s.pending := rfl
@[simp] theorem State.setValid_responses (s : State) : s.setValid.responses = s.responses := rfl
@[simp] theorem State.setValid_freeCount (s : State) : s.setValid.freeCount = s.freeCount := rfl

end Sys2Proof.Machine
end

