-- ==== Sys2Proof/Laws/Context.lean ====
section
/-! SUPPORT. The words of the subkey and of the context, the counter pair, and what NEW_CONTEXT and SET_COUNTER write. -/

namespace Sys2Proof.Machine

theorem subkeyWords_low (x : Words) (i : Nat) (hi : i < 4) : (subkeyWords x)[i] = x[i] := by
  simp [subkeyWords, hi]

theorem subkeyWords_high (x : Words) (i : Nat) (hi : i < 4) : (subkeyWords x)[i + 4] = x[i + 12] := by
  have h : ¬ i + 4 < 4 := by omega
  simp only [subkeyWords, Vector.getElem_ofFn, h, dite_false, Nat.add_assoc, Nat.reduceAdd]

theorem contextWords_constant (sk : Vector Byte 32) (nonce : Vector Byte 24) (i : Nat) (hi : i < 4) :
    (contextWords sk nonce)[i] = constWords[i] := by
  simp [contextWords, hi]

theorem contextWords_subkey (sk : Vector Byte 32) (nonce : Vector Byte 24) (i : Nat) (hi : i < 8) :
    (contextWords sk nonce)[i + 4] = (wordsDec 8 sk)[i] := by
  have h : ¬ i + 4 < 4 := by omega
  have h' : i + 4 < 12 := by omega
  simp only [contextWords, Vector.getElem_ofFn, h, h', dite_true, dite_false, Nat.add_sub_cancel]

theorem contextWords_counter (sk : Vector Byte 32) (nonce : Vector Byte 24) :
    (contextWords sk nonce)[12] = 0 ∧ (contextWords sk nonce)[13] = 0 := by
  simp [contextWords]

theorem contextWords_suffix (sk : Vector Byte 32) (nonce : Vector Byte 24) :
    (contextWords sk nonce)[14] = le32Dec (slice nonce 16 4) ∧
      (contextWords sk nonce)[15] = le32Dec (slice nonce 20 4) := by
  simp [contextWords, wordsDec_getElem, nonceSuffix, slice_slice]

/-- Every word of CTX after COUNTER is replaced. -/
theorem withCounter_getElem (ctx : Words) (v : BitVec 64) (n : Nat) (hn : n < 16) :
    (withCounter ctx v)[n] =
      if n = 13 then v.extractLsb' 32 32 else if n = 12 then v.extractLsb' 0 32 else ctx[n] := by
  simp only [withCounter, Vector.getElem_set, eq_comm (a := n)]

theorem withCounter_withCounter (ctx : Words) (v w : BitVec 64) :
    withCounter (withCounter ctx v) w = withCounter ctx w := by
  apply Vector.ext
  intro i hi
  simp only [withCounter_getElem]
  split_ifs <;> rfl

/-- All that NEW_CONTEXT writes and leaves, X and the free-value counter apart. -/
theorem newContextEffect_fields (key : Vector Byte 32) (nonce : Vector Byte 24) (s : State) :
    (newContextEffect key nonce s).ctx = contextWords (hchacha20 key (noncePart nonce)) nonce ∧
      (newContextEffect key nonce s).valid = true ∧
      (newContextEffect key nonce s).responses = s.responses ++ [[statusOk]] ∧
      (newContextEffect key nonce s).j = s.j ∧ (newContextEffect key nonce s).ks = s.ks ∧
      (newContextEffect key nonce s).pending = s.pending ∧ (newContextEffect key nonce s).busy = false := by
  simp [newContextEffect, hchacha20]

/-- All that SET_COUNTER writes and leaves. -/
theorem setCounterEffect_eq (counter : Vector Byte 8) (s : State) :
    setCounterEffect counter s =
      { s with
        ctx := (s.ctx.set 12 (ctrDec counter).1).set 13 (ctrDec counter).2
        responses := s.responses ++ [[statusOk]]
        busy := false } := rfl

end Sys2Proof.Machine
end

