-- ==== Sys2Proof/Laws/Decode.lean ====
section
/-! SUPPORT. Everything the decoder can answer, said once: the five commands with the bytes of their frames. -/

namespace Sys2Proof

open Sys2Proof.Machine

/-- A payload of `n` bytes is the field after the opcode. -/
theorem payload_eq_field (op : Byte) (payload : List Byte) (n : Nat) (h : payload.length = n) :
    payload = (field (op :: payload) 1 n).toList := by
  apply List.ext_getElem (by simp [h])
  intro i h1 h2
  simp only [Vector.getElem_toList, field_getElem, List.getD_eq_getElem?_getD, Nat.add_comm 1 i,
    List.getElem?_cons_succ, List.getElem?_eq_getElem h1, Option.getD_some]

/-- A payload of `n + m` bytes is the two fields after the opcode. -/
theorem payload_eq_fields (op : Byte) (payload : List Byte) (n m : Nat) (h : payload.length = n + m) :
    payload = (field (op :: payload) 1 n).toList ++ (field (op :: payload) (n + 1) m).toList := by
  apply List.ext_getElem (by simp [h])
  intro i h1 h2
  rw [List.getElem_append]
  split
  · simp only [Vector.getElem_toList, field_getElem, List.getD_eq_getElem?_getD, Nat.add_comm 1 i,
      List.getElem?_cons_succ, List.getElem?_eq_getElem h1, Option.getD_some]
  · rename_i hi
    simp only [Vector.length_toList, not_lt] at hi
    have e : n + 1 + (i - n) = i + 1 := by omega
    simp only [Vector.getElem_toList, field_getElem, List.getD_eq_getElem?_getD, Vector.length_toList, e,
      List.getElem?_cons_succ, List.getElem?_eq_getElem h1, Option.getD_some]

/-- What a decoded frame is: one of the five commands, its operands the payload's bytes in order. -/
theorem decode_cases (cmd : Frame) (i : Instr) (h : decode cmd = .ok i) :
    (∃ key nonce16, i = .deriveSubkey key nonce16 ∧ cmd = 0x01 :: (key.toList ++ nonce16.toList)) ∨
      (∃ key nonce, i = .newContext key nonce ∧ cmd = 0x02 :: (key.toList ++ nonce.toList)) ∨
      (∃ counter, i = .setCounter counter ∧ cmd = 0x03 :: counter.toList) ∨
      (∃ input, i = .transform input ∧ cmd = 0x04 :: input) ∨
      (∃ length, i = .keystream (le64Dec length) ∧ cmd = 0x05 :: length.toList) := by
  cases cmd with
  | nil => simp [decode] at h
  | cons op payload =>
    unfold decode at h
    simp only [List.length_cons] at h
    split at h
    · next hop =>
      split at h
      · cases h
      · next hl =>
        subst hop
        injection h with h
        exact .inl ⟨_, _, h.symm, congrArg _ (payload_eq_fields _ _ 32 16 (by omega))⟩
    split at h
    · next hop =>
      split at h
      · cases h
      · next hl =>
        subst hop
        injection h with h
        exact .inr (.inl ⟨_, _, h.symm, congrArg _ (payload_eq_fields _ _ 32 24 (by omega))⟩)
    split at h
    · next hop =>
      split at h
      · cases h
      · next hl =>
        subst hop
        injection h with h
        exact .inr (.inr (.inl ⟨_, h.symm, congrArg _ (payload_eq_field _ _ 8 (by omega))⟩))
    split at h
    · next hop =>
      subst hop
      injection h with h
      exact .inr (.inr (.inr (.inl ⟨_, h.symm, rfl⟩)))
    split at h
    · next hop =>
      split at h
      · cases h
      · next hl =>
        subst hop
        injection h with h
        exact .inr (.inr (.inr (.inr ⟨_, h.symm, congrArg _ (payload_eq_field _ _ 8 (by omega))⟩)))
    cases h

end Sys2Proof
end

