-- ==== Sys2Proof/Laws/Stream.lean ====
section
/-! SUPPORT. One iteration of the block loop, the loop, and TRANSFORM's effect: what each leaves of the state besides the
register files the loop works on, and how long its output is. -/

namespace Sys2Proof.Machine

theorem xorBytes_length (input : List Byte) (ks : Vector Byte 64) : (xorBytes input ks).length = min input.length 64 := by
  simp [xorBytes]

theorem ksBlock_getElem (ctx : Words) (p : Nat) (hp : p < 64) :
    (ksBlock ctx)[p] = ((permute ctx)[p / 4] + ctx[p / 4]).extractLsb' (8 * (p % 4)) 8 := by
  simp only [ksBlock, wordsEnc_getElem, Vector.getElem_ofFn, add32]

/-- The output of one iteration, from the context alone. -/
theorem streamBlock_output (input : List Byte) (s : State) :
    (streamBlock input s).1 = xorBytes (input.take 64) (ksBlock s.ctx) := by
  simp [streamBlock]

theorem streamBlock_ctx (input : List Byte) (s : State) : (streamBlock input s).2.ctx = counterIncWords s.ctx := by
  simp [streamBlock]

/-- One iteration leaves the flags and the transport alone. -/
theorem streamBlock_frame (input : List Byte) (s : State) :
    (streamBlock input s).2.valid = s.valid ∧ (streamBlock input s).2.busy = s.busy ∧
      (streamBlock input s).2.pending = s.pending ∧ (streamBlock input s).2.responses = s.responses := by
  simp [streamBlock]

theorem streamLoop_succ (n : Nat) (input : List Byte) (s : State) :
    streamLoop (n + 1) input s =
      ((streamBlock input s).1 ++ (streamLoop n (input.drop 64) (streamBlock input s).2).1,
        (streamLoop n (input.drop 64) (streamBlock input s).2).2) := rfl

/-- The loop leaves the flags and the transport alone. -/
theorem streamLoop_frame (n : Nat) (input : List Byte) (s : State) :
    (streamLoop n input s).2.valid = s.valid ∧ (streamLoop n input s).2.busy = s.busy ∧
      (streamLoop n input s).2.pending = s.pending ∧ (streamLoop n input s).2.responses = s.responses := by
  induction n generalizing input s with
  | zero => simp [streamLoop]
  | succ n ih =>
    obtain ⟨h1, h2, h3, h4⟩ := ih (input.drop 64) (streamBlock input s).2
    obtain ⟨g1, g2, g3, g4⟩ := streamBlock_frame input s
    rw [streamLoop_succ]
    exact ⟨h1.trans g1, h2.trans g2, h3.trans g3, h4.trans g4⟩

/-- The loop's output and its context come from the input and the context alone. -/
theorem streamLoop_congr (n : Nat) (input : List Byte) (s t : State) (h : s.ctx = t.ctx) :
    (streamLoop n input s).1 = (streamLoop n input t).1 ∧
      (streamLoop n input s).2.ctx = (streamLoop n input t).2.ctx := by
  induction n generalizing input s t with
  | zero => exact ⟨rfl, h⟩
  | succ n ih =>
    have hctx : (streamBlock input s).2.ctx = (streamBlock input t).2.ctx := by
      rw [streamBlock_ctx, streamBlock_ctx, h]
    obtain ⟨ho, hc⟩ := ih (input.drop 64) _ _ hctx
    rw [streamLoop_succ, streamLoop_succ, streamBlock_output, streamBlock_output, h, ho, hc]
    exact ⟨rfl, rfl⟩

/-- The loop of ceil(n/64) iterations gives one output byte per input byte. -/
theorem streamLoop_length (n : Nat) (input : List Byte) (s : State) (h : input.length ≤ 64 * n) :
    (streamLoop n input s).1.length = input.length := by
  induction n generalizing input s with
  | zero => simp [streamLoop]; omega
  | succ n ih =>
    have hd := ih (input.drop 64) (streamBlock input s).2 (by rw [List.length_drop]; omega)
    rw [streamLoop_succ, List.length_append, hd, streamBlock_output, xorBytes_length, List.length_take, List.length_drop]
    omega

theorem length_le_blockCount (n : Nat) : n ≤ 64 * blockCount n := by
  unfold blockCount
  omega

/-- TRANSFORM's effect: the response, and what it leaves. -/
theorem transformEffect_fields (input : List Byte) (s : State) :
    (transformEffect input s).responses =
        s.responses ++ [statusOk :: (streamLoop (blockCount input.length) input s).1] ∧
      (transformEffect input s).ctx = (streamLoop (blockCount input.length) input s).2.ctx ∧
      (transformEffect input s).valid = s.valid ∧ (transformEffect input s).pending = s.pending ∧
      (transformEffect input s).busy = false := by
  obtain ⟨h1, -, h3, h4⟩ := streamLoop_frame (blockCount input.length) input s
  simp [transformEffect, h1, h3, h4]

end Sys2Proof.Machine
end

