-- ==== Sys2Proof/Laws/Exec.lean ====
section
/-! SUPPORT. The check of VALID, and each arm of exec under VALID = 1 as its effect: the lemmas a proof about an instruction
cites instead of unfolding its meaning. -/

namespace Sys2Proof.Machine

/-- All that the check of VALID can answer. -/
theorem withContext_cases (run : State → State) (s : State) :
    (s.valid = false ∧ withContext run s = .next (s.raise .noContext)) ∨
      (s.valid = true ∧ withContext run s = .next (run s)) := by
  cases h : s.valid <;> simp [withContext, h]

theorem withContext_of_valid (run : State → State) (s : State) (h : s.valid = true) :
    withContext run s = .next (run s) := by
  simp [withContext, h]

theorem withContext_of_not_valid (run : State → State) (s : State) (h : s.valid = false) :
    withContext run s = .next (s.raise .noContext) := by
  simp [withContext, h]

theorem exec_newContext (key : Vector Byte 32) (nonce : Vector Byte 24) (s : State) :
    exec (.newContext key nonce) s = .next (newContextEffect key nonce s) := by
  unfold exec execNewContext
  rfl

theorem exec_setCounter (counter : Vector Byte 8) (s : State) :
    exec (.setCounter counter) s = withContext (setCounterEffect counter) s := rfl

theorem exec_transform (input : List Byte) (s : State) :
    exec (.transform input) s = withContext (transformEffect input) s := rfl

theorem exec_keystream (length : BitVec 64) (s : State) :
    exec (.keystream length) s = withContext (keystreamEffect length) s := rfl

theorem exec_encryptBlocks (blocks : Nat) (input : List Byte) (s : State) (h : input.length = 64 * blocks) :
    exec (.encryptBlocks blocks input) s = withContext (transformEffect input) s := by
  simp [exec, execEncryptBlocks, transformBlocks, h]

theorem exec_decryptBlocks (blocks : Nat) (input : List Byte) (s : State) (h : input.length = 64 * blocks) :
    exec (.decryptBlocks blocks input) s = withContext (transformEffect input) s := by
  simp [exec, execDecryptBlocks, transformBlocks, h]

theorem exec_keystreamBlocks (blocks : Nat) (s : State) (h : 64 * blocks ≤ 2 ^ 64 - 1) :
    exec (.keystreamBlocks blocks) s = withContext (keystreamEffect (blocksLength blocks)) s := by
  simp only [exec, execKeystreamBlocks, h, if_true]

end Sys2Proof.Machine
end

