-- ==== Sys2Proof/Laws/PerInstr.lean ====
section
/-! SUPPORT. A statement for every instruction as syntax: the frame it encodes to has the opcode and the length of R80. -/

namespace Sys2Proof.Laws.FrameShape

/-- The frame starts with an opcode of 0x01..0x05 and has the length that opcode requires (R80); under 0x04 any. -/
def Statement (i : Instr) : Prop :=
  ∃ op payload, encode i = op :: payload ∧ 1 ≤ op.toNat ∧ op.toNat ≤ 5 ∧
    (op ≠ 0x04 → (encode i).length = requiredLength op)

theorem deriveSubkey (key : Vector Byte 32) (nonce16 : Vector Byte 16) : Statement (.deriveSubkey key nonce16) :=
  ⟨0x01, _, rfl, by decide, by decide, fun _ => by simp [encode, requiredLength]⟩

theorem newContext (key : Vector Byte 32) (nonce : Vector Byte 24) : Statement (.newContext key nonce) :=
  ⟨0x02, _, rfl, by decide, by decide, fun _ => by simp [encode, requiredLength]⟩

theorem setCounter (counter : Vector Byte 8) : Statement (.setCounter counter) :=
  ⟨0x03, _, rfl, by decide, by decide, fun _ => by simp [encode, requiredLength]⟩

theorem transform (input : List Byte) : Statement (.transform input) :=
  ⟨0x04, _, rfl, by decide, by decide, fun h => absurd rfl h⟩

theorem keystream (length : BitVec 64) : Statement (.keystream length) :=
  ⟨0x05, _, rfl, by decide, by decide, fun _ => by simp [encode, requiredLength]⟩

theorem encrypt (input : List Byte) : Statement (.encrypt input) :=
  ⟨0x04, _, rfl, by decide, by decide, fun h => absurd rfl h⟩

theorem decrypt (input : List Byte) : Statement (.decrypt input) :=
  ⟨0x04, _, rfl, by decide, by decide, fun h => absurd rfl h⟩

theorem init (key : Vector Byte 32) (nonce : Vector Byte 24) : Statement (.init key nonce) :=
  ⟨0x02, _, rfl, by decide, by decide, fun _ => by simp [encode, requiredLength]⟩

theorem encryptBlocks (blocks : Nat) (input : List Byte) : Statement (.encryptBlocks blocks input) :=
  ⟨0x04, _, rfl, by decide, by decide, fun h => absurd rfl h⟩

theorem decryptBlocks (blocks : Nat) (input : List Byte) : Statement (.decryptBlocks blocks input) :=
  ⟨0x04, _, rfl, by decide, by decide, fun h => absurd rfl h⟩

theorem keystreamBlocks (blocks : Nat) : Statement (.keystreamBlocks blocks) :=
  ⟨0x05, _, rfl, by decide, by decide, fun _ => by simp [encode, requiredLength]⟩

end Sys2Proof.Laws.FrameShape
end

