-- ==== Sys2Proof/Laws/Permutation.lean ====
section
/-! SUPPORT. What one line of the quarter round leaves in each slot; the rounds unrolled once. -/

namespace Sys2Proof.Machine

/-- The word every slot holds after `a += b;  d = rotl(d ^ a, n)` on distinct slots a and d. -/
theorem qrLine_getElem (a b d : Fin 16) (n : Nat) (x : Words) (had : a ≠ d) (k : Fin 16) :
    (qrLine a b d n x)[k] =
      if k = d then rotl32 (x[d] ^^^ (x[a] + x[b])) n else if k = a then x[a] + x[b] else x[k] := by
  have had' : (a : Nat) ≠ d := fun h => had (Fin.ext h)
  simp only [qrLine, Fin.getElem_fin, Vector.getElem_set, add32, xor32, if_true, had', if_false, Fin.ext_iff,
    eq_comm (a := (k : Nat))]

theorem columnRound_eq (x : Words) :
    columnRound x = qr 3 7 11 15 (qr 2 6 10 14 (qr 1 5 9 13 (qr 0 4 8 12 x))) := rfl

theorem diagonalRound_eq (x : Words) :
    diagonalRound x = qr 3 4 9 14 (qr 2 7 8 13 (qr 1 6 11 12 (qr 0 5 10 15 x))) := rfl

theorem doubleRounds_succ (n : Nat) (x : Words) : doubleRounds (n + 1) x = doubleRounds n (doubleRound x) := rfl

end Sys2Proof.Machine
end

