-- ==== Sys2Proof/Laws/Step.lean ====
section
/-! SUPPORT. Everything one step can do, said once: wait, be reset, or run the oldest frame. -/

namespace Sys2Proof.Machine

/-- The next states of a step: the same state; the reset state; the frame taken and its command executed or answered with
the decoder's error. -/
theorem step_cases (s t : State) (h : step s = .next t) :
    (t = s ∧ (s.pending = [] ∨ s.busy = true)) ∨
      (∃ rest, s.pending = .reset :: rest ∧ t = State.resetInput { s with pending := rest }) ∨
      (∃ cmd rest, s.pending = .frameThenReset cmd :: rest ∧ s.busy = false ∧ t = (s.accept rest).resetInput) ∨
      ∃ cmd rest, s.pending = .frame cmd :: rest ∧ s.busy = false ∧ runFrame cmd (s.accept rest) = .next t := by
  unfold step at h
  split at h
  · next hp =>
    injection h with h
    exact .inl ⟨h.symm, .inl hp⟩
  · next input rest hp =>
    cases input with
    | reset =>
      simp only [serveInput] at h
      injection h with h
      exact .inr (.inl ⟨rest, hp, h.symm⟩)
    | frame cmd =>
      simp only [serveInput] at h
      split at h
      · next hb =>
        injection h with h
        exact .inl ⟨h.symm, .inr hb⟩
      · next hb => exact .inr (.inr (.inr ⟨cmd, rest, hp, by simpa using hb, h⟩))
    | frameThenReset cmd =>
      simp only [serveInput] at h
      split at h
      · next hb =>
        injection h with h
        exact .inl ⟨h.symm, .inr hb⟩
      · next hb =>
        injection h with h
        exact .inr (.inr (.inl ⟨cmd, rest, hp, by simpa using hb, h.symm⟩))

/-- An accepted frame: its command is executed, or the decoder's error is raised. -/
theorem runFrame_cases (cmd : Frame) (s : State) :
    (∃ i, decode cmd = .ok i ∧ runFrame cmd s = exec i s) ∨
      ∃ e, decode cmd = .error e ∧ runFrame cmd s = .next (s.raise e) := by
  unfold runFrame
  cases decode cmd with
  | ok i => exact .inl ⟨i, rfl, rfl⟩
  | error e => exact .inr ⟨e, rfl, rfl⟩

/-- An error writes the response and BUSY, nothing else (R236). -/
theorem raise_eq (e : CommandError) (s : State) :
    s.raise e = { s with responses := s.responses ++ [[errorCode e]], busy := false } := rfl

end Sys2Proof.Machine
end

