-- ==== Sys2Proof/Machine/Assembler.lean ====
section
/-! DEFINITION. The assembler notation of R93 to R95: one command a line, as text, to the frame it stands for. It is no part
of the CORE (a notation only, 92_eei_decisions.md D16); it refuses by answering none. Lexical points R93 leaves open are
DESIGN CHOICE (log 16). -/

namespace Sys2Proof.Machine

/-- The value of a hex digit. -/
def hexDigit (c : Char) : Option Nat :=
  if 48 ≤ c.toNat ∧ c.toNat ≤ 57 then some (c.toNat - 48)
  else if 65 ≤ c.toNat ∧ c.toNat ≤ 70 then some (c.toNat - 55)
  else if 97 ≤ c.toNat ∧ c.toNat ≤ 102 then some (c.toNat - 87)
  else none

/-- A byte-string value: an even number of hex digits with no marker before them, bytes in buffer order (R93). -/
def hexBytes : List Char → Option (List Byte)
  | [] => some []
  | [_] => none
  | a :: b :: rest =>
    match hexDigit a, hexDigit b, hexBytes rest with
    | some x, some y, some bytes => some (BitVec.ofNat 8 (16 * x + y) :: bytes)
    | _, _, _ => none

/-- The digits of an integer in a base, most significant first, added to the value read so far. -/
def digitsValue (base : Nat) : Nat → List Char → Option Nat
  | value, [] => some value
  | value, c :: rest =>
    match hexDigit c with
    | some d => if d < base then digitsValue base (base * value + d) rest else none
    | none => none

/-- An integer value: decimal, or hex after `0x`; at least one digit (R93). -/
def integer : List Char → Option Nat
  | [] => none
  | ['0', 'x'] => none
  | '0' :: 'x' :: digits => digitsValue 16 0 digits
  | digits => digitsValue 10 0 digits

/-- A byte-string operand of exactly `n` bytes; another length is refused (R93). -/
def bytesOperand (n : Nat) (text : List Char) : Option (Vector Byte n) :=
  match hexBytes text with
  | some bytes => if h : bytes.length = n then some ⟨bytes.toArray, h⟩ else none
  | none => none

/-- An integer operand 0..2^64-1 (R93). -/
def lengthOperand (text : List Char) : Option (BitVec 64) :=
  match integer text with
  | some n => if n ≤ 2 ^ 64 - 1 then some (BitVec.ofNat 64 n) else none
  | none => none

/-- The blank-separated parts of a line, `part` being the one read so far, backwards. -/
def splitLine : List Char → List Char → List (List Char)
  | part, [] => if part = [] then [] else [part.reverse]
  | part, ' ' :: rest => if part = [] then splitLine [] rest else part.reverse :: splitLine [] rest
  | part, c :: rest => splitLine (c :: part) rest

/-- The text after `name=` in an operand of that name. -/
def operandValue (name : String) (operand : List Char) : Option (List Char) :=
  let marker := name.toList ++ ['=']
  if marker.isPrefixOf operand then some (operand.drop marker.length) else none

/-- An operand `key=` of 32 bytes and one of `n` bytes under another name. -/
def keyAndNonce (n : Nat) (nonceName : String) (first second : List Char) :
    Option (Vector Byte 32 × Vector Byte n) :=
  match operandValue "key" first, operandValue nonceName second with
  | some keyText, some nonceText =>
    match bytesOperand 32 keyText, bytesOperand n nonceText with
    | some key, some nonce => some (key, nonce)
    | _, _ => none
  | _, _ => none

/-- An operand `input=` of any number of bytes. -/
def inputOperand (operand : List Char) : Option (List Byte) := (operandValue "input" operand).bind hexBytes

/-- An operand `blocks=`. -/
def blocksOperand (operand : List Char) : Option Nat := (operandValue "blocks" operand).bind integer

/-- The operands `blocks=` and `input=` of ENCRYPT_BLOCKS and DECRYPT_BLOCKS (R95). -/
def blocksAndInput (first second : List Char) : Option (Nat × List Byte) :=
  match blocksOperand first, inputOperand second with
  | some blocks, some input => some (blocks, input)
  | _, _ => none

/-- The command a mnemonic and its operands stand for, the operands in the order R93 and R95 list them. -/
def parseCommand (mnemonic : List Char) (operands : List (List Char)) : Option Instr :=
  match operands with
  | [operand] =>
    if mnemonic = "SET_COUNTER".toList then
      match operandValue "counter" operand with
      | some text => (bytesOperand 8 text).map .setCounter
      | none => ((operandValue "value" operand).bind lengthOperand).map setCounterValue
    else if mnemonic = "TRANSFORM".toList then (inputOperand operand).map .transform
    else if mnemonic = "ENCRYPT".toList then (inputOperand operand).map .encrypt
    else if mnemonic = "DECRYPT".toList then (inputOperand operand).map .decrypt
    else if mnemonic = "KEYSTREAM".toList then
      ((operandValue "length" operand).bind lengthOperand).map .keystream
    else if mnemonic = "KEYSTREAM_BLOCKS".toList then (blocksOperand operand).map .keystreamBlocks
    else none
  | [first, second] =>
    if mnemonic = "DERIVE_SUBKEY".toList then
      (keyAndNonce 16 "nonce16" first second).map fun p => .deriveSubkey p.1 p.2
    else if mnemonic = "NEW_CONTEXT".toList then
      (keyAndNonce 24 "nonce" first second).map fun p => .newContext p.1 p.2
    else if mnemonic = "INIT".toList then (keyAndNonce 24 "nonce" first second).map fun p => .init p.1 p.2
    else if mnemonic = "ENCRYPT_BLOCKS".toList then
      (blocksAndInput first second).map fun p => .encryptBlocks p.1 p.2
    else if mnemonic = "DECRYPT_BLOCKS".toList then
      (blocksAndInput first second).map fun p => .decryptBlocks p.1 p.2
    else none
  | _ => none

/-- The frame of a well-formed command; a term the conditions of R95 exclude is refused. -/
def assembleInstr (i : Instr) : Option Frame := if i.wellFormed then some (encode i) else none

/-- One line: what follows `;` is comment; an empty line gives no frame; `.frame` gives its bytes as they stand; any other
line is a command (R93). -/
def assembleLine (line : List Char) : Option (List Frame) :=
  match splitLine [] (line.takeWhile (· ≠ ';')) with
  | [] => some []
  | head :: operands =>
    if head = ".frame".toList then (hexBytes operands.flatten).map fun bytes => [bytes]
    else ((parseCommand head operands).bind assembleInstr).map fun cmd => [cmd]

/-- The lines of a source text, one after another; one refused line refuses the text. -/
def assemble : List (List Char) → Option (List Frame)
  | [] => some []
  | line :: rest =>
    match assembleLine line, assemble rest with
    | some frames, some more => some (frames ++ more)
    | _, _ => none

end Sys2Proof.Machine
end

