-- ==== Sys2Proof/Tests/Slice0.lean ====
section
/-! SUPPORT. The model's own tests. Expected results are the spec's: the examples of its rules and the vectors V<n> and programs
P<n> of 95_test_vectors.md. At the end, one witness or more for every obligation that has hypotheses. -/

namespace Sys2Proof.Tests

open Sys2Proof.Machine

/-! ### Helpers -/

/-- Bytes written in hex, in buffer order. -/
def hex (text : String) : List Byte := (hexBytes text.toList).getD []

/-- The first response after those of `s`, where a next state was answered. -/
def response (s : State) (r : Result) : Option Frame :=
  match r with
  | .next t => t.responses[s.responses.length]?
  | _ => none

/-- The next state, where one was answered. -/
def nextState (r : Result) : Option State :=
  match r with
  | .next t => some t
  | _ => none

theorem eq_next_of_nextState (r : Result) (t : State) (h : nextState r = some t) : r = .next t := by
  cases r <;> simp [nextState] at h
  rw [h]

/-- The refusal, where one was answered. -/
def refusal (r : Result) : Option Refusal :=
  match r with
  | .refused e => some e
  | _ => none

/-- CTX and VALID of a next state. -/
def context (r : Result) : Option (Words × Bool) :=
  match r with
  | .next t => some (t.ctx, t.valid)
  | _ => none

/-- COUNTER of a next state. -/
def counter (r : Result) : Option (BitVec 64) :=
  match r with
  | .next t => some t.counter
  | _ => none

/-- V40's context, words in index order, with a counter (low word, high word). -/
def v40Context (lo hi : Word) : Words :=
  #v[0x61707865, 0x3320646E, 0x79622D32, 0x6B206574, 0x4C704011, 0x5D1D8D32, 0x6C08300E, 0xBD9D20DF,
     0xF4B8436A, 0x1CA11815, 0x69B687C3, 0x8665EEB2, lo, hi, 0, 0]

/-- A state with V40's context valid. -/
def v40State (lo hi : Word) : State := { State.reset with ctx := v40Context lo hi, valid := true }

/-- A state after reset with one frame offered. -/
def offered (cmd : Frame) : State := offerFirst cmd State.reset

/-- V40's context valid with one frame offered. -/
def offeredV40 (cmd : Frame) : State := offerFirst cmd (v40State 0 0)

/-- The response of a step that takes a frame after reset. -/
def answer (cmd : Frame) : Option Frame := response State.reset (step (offered cmd))

/-! ### WellFormed: every check refuses an ill-formed term (R95) -/

theorem test_wellFormed_refuses_encryptBlocks : (Instr.encryptBlocks 1 (List.replicate 65 0)).wellFormed = false := by
  decide +kernel

theorem test_wellFormed_refuses_decryptBlocks : (Instr.decryptBlocks 1 [0x41]).wellFormed = false := by decide

theorem test_wellFormed_refuses_keystreamBlocks : (Instr.keystreamBlocks (2 ^ 58)).wellFormed = false := by decide

/-! ### Decoding: words written out byte by byte from R82 to R86 -/

theorem test_decode_deriveSubkey :
    decode (hex ("01" ++ "000102030405060708090A0B0C0D0E0F101112131415161718191A1B1C1D1E1F" ++
        "000000090000004A0000000031415927")) =
      .ok (.deriveSubkey
        #v[0x00, 0x01, 0x02, 0x03, 0x04, 0x05, 0x06, 0x07, 0x08, 0x09, 0x0A, 0x0B, 0x0C, 0x0D, 0x0E, 0x0F,
           0x10, 0x11, 0x12, 0x13, 0x14, 0x15, 0x16, 0x17, 0x18, 0x19, 0x1A, 0x1B, 0x1C, 0x1D, 0x1E, 0x1F]
        #v[0x00, 0x00, 0x00, 0x09, 0x00, 0x00, 0x00, 0x4A, 0x00, 0x00, 0x00, 0x00, 0x31, 0x41, 0x59, 0x27]) := by
  decide +kernel

theorem test_decode_newContext :
    decode (hex ("02" ++ "808182838485868788898A8B8C8D8E8F909192939495969798999A9B9C9D9E9F" ++
        "404142434445464748494A4B4C4D4E4F5051525354555658")) =
      .ok (.newContext
        #v[0x80, 0x81, 0x82, 0x83, 0x84, 0x85, 0x86, 0x87, 0x88, 0x89, 0x8A, 0x8B, 0x8C, 0x8D, 0x8E, 0x8F,
           0x90, 0x91, 0x92, 0x93, 0x94, 0x95, 0x96, 0x97, 0x98, 0x99, 0x9A, 0x9B, 0x9C, 0x9D, 0x9E, 0x9F]
        #v[0x40, 0x41, 0x42, 0x43, 0x44, 0x45, 0x46, 0x47, 0x48, 0x49, 0x4A, 0x4B, 0x4C, 0x4D, 0x4E, 0x4F,
           0x50, 0x51, 0x52, 0x53, 0x54, 0x55, 0x56, 0x58]) := by
  decide +kernel

theorem test_decode_setCounter :
    decode [0x03, 0xFF, 0xFF, 0xFF, 0xFF, 0x01, 0x00, 0x00, 0x00] =
      .ok (.setCounter #v[0xFF, 0xFF, 0xFF, 0xFF, 0x01, 0x00, 0x00, 0x00]) := by decide

theorem test_decode_transform : decode [0x04, 0x41, 0x42, 0x43] = .ok (.transform [0x41, 0x42, 0x43]) := by decide

/-- P1's KEYSTREAM length=64, and a length with its top byte set: byte 8 is the most significant (R86). -/
theorem test_decode_keystream :
    decode [0x05, 0x40, 0, 0, 0, 0, 0, 0, 0] = .ok (.keystream 64) ∧
      decode [0x05, 0x02, 0x01, 0, 0, 0, 0, 0, 0x80] = .ok (.keystream 0x8000000000000102) := by decide

/-- The other names print as their command: a disassembler gives the five commands (R94, R95). -/
theorem test_decode_other_names :
    decode (encode (.encrypt [0x41])) = .ok (.transform [0x41]) ∧
      decode (encode (.decrypt [0x41])) = .ok (.transform [0x41]) ∧
      decode (encode (.encryptBlocks 0 [])) = .ok (.transform []) ∧
      decode (encode (.decryptBlocks 0 [])) = .ok (.transform []) ∧
      decode (encode (.keystreamBlocks 3)) = .ok (.keystream 192) ∧
      decode (encode (.init (Vector.replicate 32 0) (Vector.replicate 24 1))) =
        .ok (.newContext (Vector.replicate 32 0) (Vector.replicate 24 1)) := by decide

theorem test_decodeTableWord :
    decodeTableWord 8 0x05 = some (.keystream 0) ∧ decodeTableWord 16 0x4104 = some (.transform [0x41]) ∧
      decodeTableWord 8 0x00 = none ∧ decodeTableWord 8 0x06 = none := by decide

/-! ### Errors and their priority: V70 to V80 -/

theorem test_invalidCommand :
    answer [] = some [0x02] ∧ answer [0x00] = some [0x02] ∧ answer [0x06] = some [0x02] ∧
      answer (0xFF :: List.replicate 48 0) = some [0x02] := by decide

theorem test_invalidLength :
    answer (0x01 :: List.replicate 47 0) = some [0x01] ∧ answer (0x01 :: List.replicate 49 0) = some [0x01] ∧
      answer (0x02 :: List.replicate 55 0) = some [0x01] ∧ answer (0x03 :: List.replicate 3 0) = some [0x01] ∧
      answer (0x05 :: List.replicate 7 0) = some [0x01] ∧ answer (0x05 :: List.replicate 9 0) = some [0x01] := by
  decide

theorem test_noContext :
    answer (0x03 :: List.replicate 8 0) = some [0x03] ∧ answer [0x04] = some [0x03] ∧
      answer [0x04, 0x00] = some [0x03] ∧ answer (0x05 :: List.replicate 8 0) = some [0x03] := by decide

/-- V80: an error leaves VALID and CTX as they were. -/
theorem test_error_keeps_context :
    context (step (offeredV40 (0x02 :: List.replicate 10 0))) = some (v40Context 0 0, true) ∧
      response (v40State 0 0) (step (offeredV40 (0x02 :: List.replicate 10 0))) = some [0x01] := by decide

/-! ### The Word Codec: V1, V4, V5, V8, V9, V9a -/

theorem test_le32 :
    le32Dec #v[0x01, 0x02, 0x03, 0x04] = 0x04030201 ∧ le32Dec #v[0x00, 0x00, 0x00, 0x80] = 0x80000000 ∧
      le32Enc 0x61707865 = #v[0x65, 0x78, 0x70, 0x61] := by decide

theorem test_counter_codec :
    ctrDec #v[0xFF, 0xFF, 0xFF, 0xFF, 0x01, 0, 0, 0] = (0xFFFFFFFF, 0x00000001) ∧
      le64Dec #v[0x40, 0, 0, 0, 0, 0, 0, 0] = 64 ∧ le64Enc 0x100000000 = #v[0, 0, 0, 0, 0x01, 0, 0, 0] := by decide

/-! ### The Permutation Core: V10 to V15, V20 to V22, V24 -/

theorem test_word_operators :
    add32 0xFFFFFFFF 1 = 0 ∧ add32 0x11111111 0x01020304 = 0x12131415 ∧ rotl32 0x12345678 16 = 0x56781234 ∧
      rotl32 0x12345678 7 = 0x1A2B3C09 ∧ rotl32 0x80000000 1 = 1 ∧ rotl32 1 31 = 0x80000000 := by decide

/-- V12, on slots 2, 7, 8, 13 of a file whose other words must stay. -/
theorem test_quarterRound :
    qr 2 7 8 13 #v[0, 1, 0x11111111, 3, 4, 5, 6, 0x01020304, 0x9B8D6F43, 9, 10, 11, 12, 0x01234567, 14, 15] =
      #v[0, 1, 0xEA2A92F4, 3, 4, 5, 6, 0xCB1CF8CE, 0x4581472E, 9, 10, 11, 12, 0x5881C4BB, 14, 15] := by decide +kernel

/-- X[i] = i, the input of V20 to V24. -/
def ramp : Words := Vector.ofFn fun i => BitVec.ofNat 32 i.val

theorem test_columnRound :
    columnRound ramp =
      #v[0x8000C004, 0xB000C006, 0x6000C008, 0x5000C00A, 0x64624444, 0xE5E35CDD, 0x63643533, 0xE2E52DAA,
         0x08C80488, 0x0BCB06B9, 0x06C6086A, 0x05C50A5B, 0x08C00480, 0x0BC006B0, 0x06C00860, 0x05C00A50] := by
  decide +kernel

theorem test_diagonalRound :
    diagonalRound ramp =
      #v[0xA000F005, 0xB000D007, 0x4000F009, 0x9000D007, 0xECEBCCCC, 0x7D7AD555, 0xEDEBDDDD, 0x7A7CA422,
         0x04F40948, 0x09D90799, 0x0AFA05AA, 0x0BDB07BB, 0x0BD007B0, 0x04F00940, 0x09D00790, 0x0AF005A0] := by
  decide +kernel

theorem test_doubleRound :
    doubleRound ramp =
      #v[0xA9295C6A, 0xB471BE7A, 0x38E65EC4, 0x74348B87, 0xF1AD76C6, 0x7B44627B, 0x946682B0, 0xF12F4910,
         0xD7E22F80, 0x3232DDD4, 0xB5B3B74D, 0xC0240444, 0xC8A5DE45, 0xE417E1D3, 0x1A392478, 0x983C4EBF] := by
  decide +kernel

theorem test_permute :
    permute ramp =
      #v[0x48E90081, 0xF390518C, 0x224B1422, 0x0E74BDB7, 0x888688D2, 0x108E96F4, 0x1DE13D82, 0x71BC3E28,
         0x281FF786, 0x66900EBD, 0xD3BFBE82, 0x815F33EE, 0x665AAEB4, 0x7485A165, 0x61889CE7, 0x94255E20] := by
  decide +kernel

/-! ### The commands -/

/-- V79e with V31: DERIVE_SUBKEY straight after reset, from its frame. -/
theorem test_deriveSubkey :
    answer (0x01 :: List.replicate 48 0) =
      some (hex "001140704C328D1D5D0E30086CDF209DBD6A43B8F41518A11CC387B669B2EE6586") := by decide +kernel

/-- V41. -/
theorem test_newContext :
    context (step (offered (hex ("02" ++ "808182838485868788898A8B8C8D8E8F909192939495969798999A9B9C9D9E9F" ++
        "404142434445464748494A4B4C4D4E4F5051525354555658")))) =
      some (#v[0x61707865, 0x3320646E, 0x79622D32, 0x6B206574, 0xC0C08A4A, 0xBA226229, 0xAA9F95FE, 0x5BA406BE,
               0xE4CEA389, 0xE3F6FE44, 0xA55976D7, 0x32EE493F, 0, 0, 0x53525150, 0x58565554], true) := by
  decide +kernel

/-- V40, by the name INIT. -/
theorem test_init :
    context (exec (.init (Vector.replicate 32 0) (Vector.replicate 24 0)) State.reset) =
      some (v40Context 0 0, true) := by decide +kernel

/-- V43: byte 0 is the least significant of the low word, byte 4 of the high word. -/
theorem test_setCounter :
    context (exec (.setCounter #v[0xFF, 0xFF, 0xFF, 0xFF, 0x01, 0, 0, 0]) (v40State 7 9)) =
      some (v40Context 0xFFFFFFFF 0x00000001, true) := by decide

/-- V51: three bytes, one block, the rest of it discarded. -/
theorem test_transform :
    response (v40State 0 0) (exec (.transform [0x41, 0x42, 0x43]) (v40State 0 0)) = some (hex "00FD9269") := by
  decide +kernel

theorem test_transform_counter :
    counter (exec (.transform [0x41, 0x42, 0x43]) (v40State 0xFFFFFFFF 0)) = some 0x100000000 := by decide +kernel

/-- V54: the carry from the low word into the high word between two blocks. -/
theorem test_keystream_carry :
    response (v40State 0xFFFFFFFF 0) (exec (.keystream 128) (v40State 0xFFFFFFFF 0)) =
      some (0x00 :: hex ("B95212612451119424FF54B88064F035A0EF69B53A28C634B679EBF6B319C548" ++
        "3769A7F22742571D18B0E2FAEBB1DF1CA70225752D4F68F24AD58A4D2DC5C32B" ++
        "8861043EC0724C04837EAE0F33750FA790DB2548BFF4511F1CB4C548297F6A06" ++
        "A4C0DDD43ADF8183802B9B0BE9A5F743D308DC699C31EF984F610BF0AD56D9D6")) := by decide +kernel

/-- V57: no byte asked for, no block generated. -/
theorem test_keystream_zero :
    response (v40State 0 0) (exec (.keystream 0) (v40State 0 0)) = some [0x00] ∧
      counter (exec (.keystream 0) (v40State 5 6)) = some 0x0000000600000005 := by decide

/-- V58's first ten bytes, by the name ENCRYPT. -/
theorem test_encrypt :
    response (v40State 0 0) (exec (.encrypt [0, 1, 2, 3, 4, 5, 6, 7, 8, 9]) (v40State 0 0)) =
      some (hex "00BCD1281BBB3A07D69A9B") := by decide +kernel

/-- V51 undone, by the name DECRYPT (R206). -/
theorem test_decrypt :
    response (v40State 0 0) (exec (.decrypt [0xFD, 0x92, 0x69]) (v40State 0 0)) = some (hex "00414243") := by
  decide +kernel

/-- V50's block 1 from zeros. -/
theorem test_encryptBlocks :
    response (v40State 1 0) (exec (.encryptBlocks 1 (List.replicate 64 0)) (v40State 1 0)) =
      some (0x00 :: hex ("789E9689E5208D7FD9E1F3C5B5341F48EF18A13E418998ADDADD97A3693A987F" ++
        "8E82ECD5C1433BFED1AF49750C0F1FF29C4174A05B119AA3A9E8333812E0C0FE")) := by decide +kernel

theorem test_decryptBlocks_mismatch :
    refusal (exec (.decryptBlocks 1 [0x41]) (v40State 0 0)) = some .blockCountMismatch := by decide

theorem test_decryptBlocks_none : response State.reset (exec (.decryptBlocks 0 []) State.reset) = some [0x03] := by
  decide

/-- V50's block 0. -/
theorem test_keystreamBlocks :
    response (v40State 0 0) (exec (.keystreamBlocks 1) (v40State 0 0)) =
      some (0x00 :: hex ("BCD02A18BF3F01D19292DE30A7A8FDACA4B65E50A6002CC72CD6D2F7C91AC3D5" ++
        "728F83E0AAD2BFCF9ABD2D2DB58FAEDD65015DD83FC09B131E271043019E8E0F")) := by decide +kernel

theorem test_keystreamBlocks_too_large :
    refusal (exec (.keystreamBlocks (2 ^ 58)) State.reset) = some .blockCountTooLarge := by decide

/-! ### Reset, idling, holding -/

theorem test_reset_input_clears_valid :
    (match step { v40State 0 0 with pending := [.reset] } with
      | .next t => !t.valid && t.responses.isEmpty
      | _ => false) = true := by decide

theorem test_cut_command_is_not_answered :
    (match step { v40State 0 0 with pending := [.frameThenReset [0x04]] } with
      | .next t => !t.valid && t.responses.isEmpty
      | _ => false) = true := by decide

/-! ### The assembler: R93 and R95 -/

theorem test_assemble_lines :
    assembleLine "SET_COUNTER value=0x1 ; counter 1".toList = some [[0x03, 1, 0, 0, 0, 0, 0, 0, 0]] ∧
      assembleLine "TRANSFORM input=414243".toList = some [[0x04, 0x41, 0x42, 0x43]] ∧
      assembleLine "KEYSTREAM_BLOCKS blocks=2".toList = some [[0x05, 0x80, 0, 0, 0, 0, 0, 0, 0]] ∧
      assembleLine ".frame 06".toList = some [[0x06]] := by decide +kernel

theorem test_assemble_refuses :
    assembleLine "ENCRYPT_BLOCKS blocks=1 input=4142".toList = none ∧ assembleLine "TRANSFORM input=414".toList = none ∧
      assembleLine "SET_COUNTER counter=01".toList = none ∧
      assembleLine "KEYSTREAM length=18446744073709551616".toList = none := by decide +kernel

/-! ### Witnesses: the hypotheses of every obligation, met together on concrete values -/

theorem witness_DecodeOfEncodeIsTheCommand :
    (Instr.encryptBlocks 1 (List.replicate 64 0)).WellFormed ∧ (Instr.decryptBlocks 0 []).WellFormed ∧
      (Instr.keystreamBlocks (2 ^ 58 - 1)).WellFormed ∧ (Instr.keystream (2 ^ 64 - 1)).WellFormed := by decide

theorem witness_EncodeOfDecodeIsTheFrame :
    decode [0x05, 0xFF, 0xFF, 0xFF, 0xFF, 0xFF, 0xFF, 0xFF, 0xFF] = .ok (.keystream 0xFFFFFFFFFFFFFFFF) ∧
      decode [0x04] = .ok (.transform []) := by decide

theorem witness_IllegalFrame :
    IllegalFrame [] ∧ IllegalFrame [0x00] ∧ IllegalFrame [0x06] ∧ IllegalFrame [0xFF] ∧ ¬ IllegalFrame [0x01] ∧
      ¬ IllegalFrame [0x05] := by simp [IllegalFrame]

theorem witness_WrongLengthFrame :
    WrongLengthFrame [0x01] ∧ WrongLengthFrame (0x02 :: List.replicate 57 0) ∧ WrongLengthFrame [0x03, 0, 0, 0] ∧
      WrongLengthFrame (0x05 :: List.replicate 7 0) ∧ ¬ WrongLengthFrame (0x03 :: List.replicate 8 0) ∧
      ¬ WrongLengthFrame [0x04] := by simp [WrongLengthFrame]

theorem witness_ContextFrame :
    ContextFrame (0x03 :: List.replicate 8 0) ∧ ContextFrame [0x04] ∧ ContextFrame (0x05 :: List.replicate 8 0) ∧
      ¬ ContextFrame (0x03 :: List.replicate 7 0) ∧ ¬ ContextFrame (0x01 :: List.replicate 48 0) := by
  simp [ContextFrame]

/-- Also of EveryFrameIsAnsweredOnce. -/
theorem witness_StepRunsDecodedCommand :
    (offered [0x04, 0x41]).busy = false ∧ (offered [0x04, 0x41]).pending = .frame [0x04, 0x41] :: [] ∧
      decode [0x04, 0x41] = .ok (.transform [0x41]) := by decide

theorem witness_ErrorsInPriorityOrder :
    ((offered []).busy = false ∧ (offered []).pending = .frame [] :: [] ∧ IllegalFrame []) ∧
      ((offered [0x03]).busy = false ∧ (offered [0x03]).pending = .frame [0x03] :: [] ∧ ¬ IllegalFrame [0x03] ∧
        WrongLengthFrame [0x03]) ∧
      ((offered [0x04]).busy = false ∧ (offered [0x04]).pending = .frame [0x04] :: [] ∧ ¬ IllegalFrame [0x04] ∧
        ¬ WrongLengthFrame [0x04] ∧ ContextFrame [0x04] ∧ (offered [0x04]).valid = false) := by
  simp [offered, offerFirst, State.reset, IllegalFrame, WrongLengthFrame, ContextFrame]

/-- The four status bytes, each on a step that gives it. -/
theorem witness_StatusByteTellsTheCause :
    step (offered []) = .next { offered [] with pending := [], responses := [[0x02]] } ∧
      step (offered [0x03]) = .next { offered [0x03] with pending := [], responses := [[0x01]] } ∧
      step (offered [0x04]) = .next { offered [0x04] with pending := [], responses := [[0x03]] } ∧
      step (offeredV40 [0x04]) = .next { offeredV40 [0x04] with pending := [], responses := [[0x00]] } :=
  ⟨eq_next_of_nextState _ _ (by decide), eq_next_of_nextState _ _ (by decide), eq_next_of_nextState _ _ (by decide),
    eq_next_of_nextState _ _ (by decide)⟩

theorem witness_ResponseLengthOnSuccess_deriveSubkey (s : State) (key : Vector Byte 32) (nonce16 : Vector Byte 16) :
    ∃ t data, exec (.deriveSubkey key nonce16) s = .next t ∧ t.responses = s.responses ++ [0x00 :: data] :=
  ⟨_, (hchacha20 key nonce16).toList, by unfold exec execDeriveSubkey; rfl, by simp [hchacha20, statusOk]⟩

theorem witness_ResponseLengthOnSuccess_newContext (s : State) (key : Vector Byte 32) (nonce : Vector Byte 24) :
    ∃ t, exec (.newContext key nonce) s = .next t ∧ t.responses = s.responses ++ [[0x00]] :=
  ⟨_, exec_newContext key nonce s, (newContextEffect_fields key nonce s).2.2.1⟩

theorem witness_ResponseLengthOnSuccess_setCounter :
    response (v40State 0 0) (step (offeredV40 (0x03 :: List.replicate 8 0xFF))) = some [0x00] := by decide

theorem witness_ResponseLengthOnSuccess_stream (s : State) (input : List Byte) (length : BitVec 64) (h : s.valid = true) :
    (∃ t data, exec (.transform input) s = .next t ∧ t.responses = s.responses ++ [0x00 :: data]) ∧
      ∃ t data, exec (.keystream length) s = .next t ∧ t.responses = s.responses ++ [0x00 :: data] :=
  ⟨⟨_, _, by rw [exec_transform, withContext_of_valid _ _ h], (transformEffect_fields input s).1⟩,
    ⟨_, _, by rw [exec_keystream, withContext_of_valid _ _ h]; rfl, (transformEffect_fields _ s).1⟩⟩

theorem witness_IdleCoreWaits : State.reset.pending = [] := by decide

theorem witness_FrameIsHeldWhileBusy :
    (State.accept [.frame [0x04]] State.reset).busy = true ∧
      (State.accept [.frame [0x04]] State.reset).pending = .frame [0x04] :: [] := by decide

theorem witness_ResetInputClearsFlags :
    { v40State 0 0 with pending := [.reset] }.pending = .reset :: [] ∧
      { v40State 0 0 with pending := [.frameThenReset [0x04]] }.pending = .frameThenReset [0x04] :: [] ∧
      { v40State 0 0 with pending := [.frameThenReset [0x04]] }.busy = false := by decide

theorem v40State_inv (lo hi : Word) (responses : List Frame) :
    { v40State lo hi with responses := responses }.Inv where
  idle := rfl
  constants := by
    intro _ i
    have h : ∀ i : Fin 4, (v40Context 0 0)[i.val] = constWords[i.val] := by decide +kernel
    match i with
    | 0 => exact h 0
    | 1 => exact h 1
    | 2 => exact h 2
    | 3 => exact h 3

/-- A valid context on which a command completes and writes CTX. -/
theorem witness_StepKeepsInvariant :
    (offeredV40 (0x03 :: List.replicate 8 0xFF)).Inv ∧
      step (offeredV40 (0x03 :: List.replicate 8 0xFF)) =
        .next { v40State 0xFFFFFFFF 0xFFFFFFFF with responses := [[0x00]] } :=
  ⟨⟨rfl, (v40State_inv 0 0 []).constants⟩, eq_next_of_nextState _ _ (by decide)⟩

/-- Two states with different CTX, J and KS that agree, and a step from the first. -/
theorem witness_HiddenStateIsNeverObserved :
    (offered [0x04]).Agree { offered [0x04] with ctx := v40Context 1 2, j := v40Context 3 4, ks := Vector.replicate 64 1 } ∧
      step (offered [0x04]) = .next { offered [0x04] with pending := [], responses := [[0x03]] } :=
  ⟨⟨rfl, rfl, rfl, rfl, by decide⟩, eq_next_of_nextState _ _ (by decide)⟩

/-- VALID changes by NEW_CONTEXT, by reset, and by reset during a command. -/
theorem witness_ValidChangesOnlyByNewContextAndReset :
    (∃ t, step (offered (0x02 :: List.replicate 56 0)) = .next t ∧ t.valid ≠ (offered (0x02 :: List.replicate 56 0)).valid) ∧
      (∃ t, step { v40State 0 0 with pending := [.reset] } = .next t ∧ t.valid ≠ (v40State 0 0).valid) ∧
      ∃ t, step { v40State 0 0 with pending := [.frameThenReset [0x04]] } = .next t ∧ t.valid ≠ (v40State 0 0).valid := by
  refine ⟨?_, ⟨_, rfl, by decide⟩, ⟨_, rfl, by decide⟩⟩
  have hd : decode (0x02 :: List.replicate 56 0) = .ok (.newContext (Vector.replicate 32 0) (Vector.replicate 24 0)) := by
    decide
  refine ⟨newContextEffect (Vector.replicate 32 0) (Vector.replicate 24 0) (State.accept [] (offered (0x02 :: List.replicate 56 0))),
    ?_, ?_⟩
  · simp only [step, offered, offerFirst, State.reset, serveInput, runFrame, hd, exec_newContext]
    rfl
  · rw [(newContextEffect_fields _ _ _).2.1]
    decide

/-- Frames that are not NEW_CONTEXT's: one that leaves COUNTER, one that sets it. -/
theorem witness_ContextWordsAreImmutable :
    (∃ t, step (offeredV40 [0x04]) = .next t ∧ ∀ key nonce, decode [0x04] ≠ .ok (.newContext key nonce)) ∧
      step (offeredV40 (0x03 :: List.replicate 8 0xFF)) =
        .next { v40State 0xFFFFFFFF 0xFFFFFFFF with responses := [[0x00]] } ∧
      ∀ key nonce, decode (0x03 :: List.replicate 8 0xFF) ≠ .ok (.newContext key nonce) := by
  have h : decode (0x03 :: List.replicate 8 0xFF) = .ok (.setCounter (Vector.replicate 8 0xFF)) := by decide
  refine ⟨⟨{ v40State 0 0 with responses := [[0x00]] }, eq_next_of_nextState _ _ (by decide), ?_⟩,
    eq_next_of_nextState _ _ (by decide), ?_⟩
  · intro key nonce e
    cases e
  · intro key nonce e
    rw [h] at e
    cases e

/-- Also of ZeroLengthIsANoOp's second clause. -/
theorem witness_NoContextUnderEveryName :
    (Instr.transform []).WellFormed ∧ needsContext (.transform []) = true ∧ State.reset.valid = false ∧
      (Instr.keystreamBlocks (2 ^ 58 - 1)).WellFormed ∧ needsContext (.keystreamBlocks (2 ^ 58 - 1)) = true ∧
      (Instr.encryptBlocks 1 (List.replicate 64 0)).WellFormed ∧
      needsContext (.init (Vector.replicate 32 0) (Vector.replicate 24 0)) = false := by decide

theorem witness_RotationMovesBits : (1 ≤ 1 ∧ 1 ≤ 31) ∧ (1 ≤ 31 ∧ 31 ≤ 31) ∧ rotl32 0x80000001 1 = 3 := by decide

theorem witness_QuarterRoundWords :
    [(0 : Fin 16), 4, 8, 12].Nodup ∧ [(3 : Fin 16), 4, 9, 14].Nodup ∧ (15 : Fin 16) ∉ [(0 : Fin 16), 4, 8, 12] := by decide

/-- V23's order, and a slot of the last quadruple of each round. -/
theorem witness_LanesOfARoundCommute :
    columns.reverse.Perm columns ∧ diagonals.reverse.Perm diagonals ∧
      ((3, 7, 11, 15) : Quad) ∈ columns ∧ (15 : Fin 16) ∈ [(3 : Fin 16), 7, 11, 15] ∧
      ((3, 4, 9, 14) : Quad) ∈ diagonals ∧ (3 : Fin 16) ∈ [(3 : Fin 16), 4, 9, 14] :=
  ⟨List.reverse_perm _, List.reverse_perm _, by decide⟩

theorem witness_NewContextResult (key : Vector Byte 32) (nonce : Vector Byte 24) :
    (Instr.newContext key nonce = .newContext key nonce ∨ Instr.newContext key nonce = .init key nonce) ∧
      (Instr.init key nonce = .newContext key nonce ∨ Instr.init key nonce = .init key nonce) :=
  ⟨.inl rfl, .inr rfl⟩

/-- The premises compare subkeys and suffixes, not keys: they hold of equal operands. -/
theorem witness_KeySurvivesOnlyInTheSubkey (key : Vector Byte 32) (nonce : Vector Byte 24) :
    hchacha20 key (slice nonce 0 16) = hchacha20 key (slice nonce 0 16) ∧ slice nonce 16 8 = slice nonce 16 8 := ⟨rfl, rfl⟩

/-- Also of TransformClosedForm, KeystreamClosedForm, ZeroLengthIsANoOp's first clause and SetupIsIdempotent. -/
theorem witness_SetCounterResult : (v40State 0 0).valid = true ∧ (v40State 0xFFFFFFFF 0xFFFFFFFF).valid = true := by decide

theorem witness_TransformClosedForm (input : List Byte) :
    (Instr.encrypt input = .transform input ∨ Instr.encrypt input = .encrypt input ∨ Instr.encrypt input = .decrypt input) ∧
      (Instr.decrypt input = .transform input ∨ Instr.decrypt input = .encrypt input ∨
        Instr.decrypt input = .decrypt input) := ⟨.inr (.inl rfl), .inr (.inr rfl)⟩

theorem witness_CounterIncrementCarries :
    (v40State 0xFFFFFFFF 7).ctx[12] = 0xFFFFFFFF ∧ (v40State 0xFFFFFFFE 7).ctx[12] ≠ 0xFFFFFFFF := by decide

/-- Both sides of each of the assembler's conditions, the count at its largest. -/
theorem witness_BlockCountCommands :
    (List.replicate 64 (0 : Byte)).length = 64 * 1 ∧ ([] : List Byte).length = 64 * 0 ∧ [(0x41 : Byte)].length ≠ 64 * 1 ∧
      2 ^ 58 - 1 ≤ 2 ^ 58 - 1 ∧ ¬ 2 ^ 58 ≤ 2 ^ 58 - 1 ∧ (v40State 0 0).valid = true := by decide

/-- V58's cut. -/
theorem witness_SplitAtABlockBoundary :
    (v40State 0 0).valid = true ∧ 64 ∣ (List.replicate 64 (0 : Byte)).length ∧ 64 ∣ ([] : List Byte).length := by decide

/-- V59's cut, where the counters differ, and a cut after which they agree: 40 and 40 bytes. -/
theorem witness_SplitOffABlockBoundaryCountsMore :
    (v40State 0 0).valid = true ∧ (List.replicate 10 (0 : Byte)).length % 64 ≠ 0 ∧
      ((List.replicate 90 (0 : Byte)).length % 64 ≠ 0 ∧
        (List.replicate 10 (0 : Byte)).length % 64 + (List.replicate 90 (0 : Byte)).length % 64 ≤ 64) ∧
      (List.replicate 40 (0 : Byte)).length % 64 ≠ 0 ∧
      ¬ ((List.replicate 40 (0 : Byte)).length % 64 + (List.replicate 40 (0 : Byte)).length % 64 ≤ 64) := by decide

end Sys2Proof.Tests
end

section
/-! The state (10_state.md): COUNTER as a pair of words, what a frame may do to the context, and what a step keeps. -/

namespace Sys2Proof.Machine

/-! ### COUNTER as the pair of words 13 and 12 (R21, R201) -/

theorem toNat_append_word (hi lo : Word) : (hi ++ lo).toNat = hi.toNat * 2 ^ 32 + lo.toNat := by
  rw [BitVec.toNat_append, ← Nat.shiftLeft_add_eq_or_of_lt lo.isLt, Nat.shiftLeft_eq]

theorem counterOf_toNat (ctx : Words) : (counterOf ctx).toNat = ctx[13].toNat * 2 ^ 32 + ctx[12].toNat :=
  toNat_append_word _ _

@[simp] theorem counterOf_withCounter (ctx : Words) (v : BitVec 64) : counterOf (withCounter ctx v) = v := by
  have h : v.extractLsb' 32 32 ++ v.extractLsb' 0 32 = v := by
    rw [BitVec.extractLsb'_append_extractLsb'_eq_extractLsb' (by rfl), BitVec.extractLsb'_eq_self]
  simpa [counterOf, withCounter_getElem] using h

/-- Replacing COUNTER by a pair of words is writing the two words. -/
theorem withCounter_append (ctx : Words) (hi lo : Word) :
    withCounter ctx (hi ++ lo) = (ctx.set 12 lo).set 13 hi := by
  rw [withCounter, BitVec.extractLsb'_append_eq_left, BitVec.extractLsb'_append_eq_right]

@[simp] theorem withCounter_counterOf (ctx : Words) : withCounter ctx (counterOf ctx) = ctx := by
  rw [counterOf, withCounter_append]
  simp

theorem withCounter_getElem_of_ne (ctx : Words) (v : BitVec 64) (n : Fin 16) (h12 : n ≠ 12) (h13 : n ≠ 13) :
    (withCounter ctx v)[n.val] = ctx[n.val] := by
  have h12' : n.val ≠ 12 := fun h => h12 (Fin.ext h)
  have h13' : n.val ≠ 13 := fun h => h13 (Fin.ext h)
  rw [withCounter_getElem, if_neg h13', if_neg h12']

/-- Settles O34: COUNTER is the concatenation of the two words, and `withCounter` writes its two halves. -/
theorem counterIsTheWordPair : Obligations.CounterIsTheWordPair := fun ctx =>
  ⟨counterOf_toNat ctx, withCounter_counterOf ctx,
    fun v => ⟨counterOf_withCounter ctx v, withCounter_getElem_of_ne ctx v⟩⟩

/-- One more on a pair of words: the carry goes into the high word when the low word wraps. -/
theorem append_word_add_one (hi lo : Word) :
    (hi ++ lo : BitVec 64) + 1 = if lo + 1 = 0 then (hi + 1) ++ (lo + 1) else hi ++ (lo + 1) := by
  apply BitVec.eq_of_toNat_eq
  have hlo : lo + 1 = 0 ↔ lo.toNat = 2 ^ 32 - 1 := by bv_omega
  have hhi_lt := hi.isLt
  have hlo_lt := lo.isLt
  split_ifs with h <;> rw [hlo] at h <;>
    simp only [BitVec.toNat_add, toNat_append_word, BitVec.ofNat_eq_ofNat, BitVec.toNat_ofNat] <;> omega

/-- COUNTER_INC adds 1 to COUNTER modulo 2^64 and writes nothing else (R203). -/
theorem counterIncWords_eq (ctx : Words) : counterIncWords ctx = withCounter ctx (counterOf ctx + 1) := by
  rw [counterOf, append_word_add_one, counterIncWords, add32, add32]
  split
  · rw [withCounter_append]
  · rw [withCounter_append, Vector.set_comm _ _ (by decide), Vector.set_getElem_self]

/-- `n` iterations of the block loop add `n` to COUNTER and write no other word of CTX (R201). -/
theorem streamLoop_ctx (n : Nat) (input : List Byte) (s : State) :
    (streamLoop n input s).2.ctx = withCounter s.ctx (s.counter + BitVec.ofNat 64 n) := by
  induction n generalizing input s with
  | zero => simp [streamLoop, State.counter]
  | succ n ih =>
    have h : s.counter + 1 + BitVec.ofNat 64 n = s.counter + BitVec.ofNat 64 (n + 1) := by
      rw [BitVec.add_assoc, Nat.add_comm n, BitVec.ofNat_add]
      rfl
    rw [streamLoop_succ, ih, State.counter, streamBlock_ctx, counterIncWords_eq, counterOf_withCounter,
      withCounter_withCounter, ← State.counter, h]

theorem transformEffect_ctx (input : List Byte) (s : State) :
    (transformEffect input s).ctx = withCounter s.ctx (s.counter + BitVec.ofNat 64 (blockCount input.length)) := by
  rw [(transformEffect_fields input s).2.1, streamLoop_ctx]

/-- LE64_DEC(b) is the pair of words CTR_DEC(b), the high word first (R114). -/
theorem le64Dec_eq_append (b : Vector Byte 8) : le64Dec b = (ctrDec b).2 ++ (ctrDec b).1 := by
  apply BitVec.eq_of_toNat_eq
  rw [ctrDec_eq, toNat_append_word]
  simp only [le64Dec, le32Dec, slice_getElem, BitVec.toNat_ofNat, Nat.reduceAdd]
  omega

theorem setCounterEffect_ctx (counter : Vector Byte 8) (s : State) :
    (setCounterEffect counter s).ctx = withCounter s.ctx (le64Dec counter) := by
  rw [setCounterEffect_eq, le64Dec_eq_append, withCounter_append]

/-! ### Frames other than NEW_CONTEXT's (R22, R33) -/

/-- How COUNTER may go from `v` to `w` when a frame other than NEW_CONTEXT's is executed (R22 (b), (c)). -/
def CounterMoves (cmd : Frame) (v w : BitVec 64) : Prop :=
  w = v ∨
    (∃ counter, decode cmd = .ok (.setCounter counter) ∧ w = le64Dec counter) ∨
    (∃ input, decode cmd = .ok (.transform input) ∧ w = v + BitVec.ofNat 64 (blockCount input.length)) ∨
    (∃ length, decode cmd = .ok (.keystream length) ∧ w = v + BitVec.ofNat 64 (blockCount length.toNat))

/-- What a frame other than NEW_CONTEXT's may do, from `s` to `t`: VALID stays, CTX changes in COUNTER alone. -/
structure MovesCounterOnly (cmd : Frame) (s t : State) : Prop where
  valid : t.valid = s.valid
  busy : t.busy = false
  ctx : ∃ v, CounterMoves cmd s.counter v ∧ t.ctx = withCounter s.ctx v

theorem MovesCounterOnly.of_ctx_eq {cmd : Frame} {s t : State} (hv : t.valid = s.valid) (hb : t.busy = false)
    (hc : t.ctx = s.ctx) : MovesCounterOnly cmd s t :=
  ⟨hv, hb, s.counter, .inl rfl, by rw [hc, State.counter, withCounter_counterOf]⟩

theorem withContext_movesCounterOnly {cmd : Frame} {run : State → State} {s t : State}
    (hrun : MovesCounterOnly cmd s (run s)) (h : withContext run s = .next t) : MovesCounterOnly cmd s t := by
  obtain ⟨-, hraise⟩ | ⟨-, hrun'⟩ := withContext_cases run s
  · cases hraise.symm.trans h
    exact .of_ctx_eq rfl rfl rfl
  · cases hrun'.symm.trans h
    exact hrun

theorem setCounterEffect_movesCounterOnly {cmd : Frame} {counter : Vector Byte 8}
    (hd : decode cmd = .ok (.setCounter counter)) (s : State) : MovesCounterOnly cmd s (setCounterEffect counter s) :=
  ⟨rfl, rfl, _, .inr (.inl ⟨counter, hd, rfl⟩), setCounterEffect_ctx counter s⟩

/-- The block loop on `input`, for a frame that lets COUNTER move by the number of blocks. -/
theorem transformEffect_movesCounterOnly {cmd : Frame} {input : List Byte} {s : State}
    (hc : CounterMoves cmd s.counter (s.counter + BitVec.ofNat 64 (blockCount input.length))) :
    MovesCounterOnly cmd s (transformEffect input s) := by
  obtain ⟨-, -, hv, -, hb⟩ := transformEffect_fields input s
  exact ⟨hv, hb, _, hc, transformEffect_ctx input s⟩

theorem exec_deriveSubkey (key : Vector Byte 32) (nonce16 : Vector Byte 16) (s : State) :
    exec (.deriveSubkey key nonce16) s =
      .next ((s.runHchacha key nonce16).retireX.complete (hchacha20 key nonce16).toList) := by
  unfold exec execDeriveSubkey
  rfl

/-- All that an accepted frame can do to the context: NEW_CONTEXT builds one, any other frame moves COUNTER only. -/
theorem runFrame_context_cases {cmd : Frame} {s t : State} (h : runFrame cmd s = .next t) :
    (∃ key nonce, decode cmd = .ok (.newContext key nonce) ∧ t = newContextEffect key nonce s) ∨
      MovesCounterOnly cmd s t := by
  obtain ⟨i, hd, hrun⟩ | ⟨e, -, hrun⟩ := runFrame_cases cmd s <;> rw [hrun] at h
  · obtain ⟨key, nonce16, rfl, -⟩ | ⟨key, nonce, rfl, -⟩ | ⟨counter, rfl, -⟩ | ⟨input, rfl, -⟩ | ⟨length, rfl, -⟩ :=
      decode_cases cmd i hd
    · cases (exec_deriveSubkey key nonce16 s).symm.trans h
      exact .inr (.of_ctx_eq (by simp) (by simp) (by simp))
    · cases (exec_newContext key nonce s).symm.trans h
      exact .inl ⟨key, nonce, hd, rfl⟩
    · exact .inr (withContext_movesCounterOnly (setCounterEffect_movesCounterOnly hd s) h)
    · have hc := transformEffect_movesCounterOnly (s := s) (.inr (.inr (.inl ⟨input, hd, rfl⟩)))
      exact .inr (withContext_movesCounterOnly hc h)
    · have hc := transformEffect_movesCounterOnly (s := s) (input := zeroInput (le64Dec length).toNat)
        (.inr (.inr (.inr ⟨_, hd, by rw [zeroInput, List.length_replicate]⟩)))
      exact .inr (withContext_movesCounterOnly hc h)
  · cases h
    exact .inr (.of_ctx_eq rfl rfl rfl)

/-- A frame that does not decode to NEW_CONTEXT moves COUNTER only. -/
theorem runFrame_movesCounterOnly {cmd : Frame} {s t : State} (h : runFrame cmd s = .next t)
    (hn : ∀ key nonce, decode cmd ≠ .ok (.newContext key nonce)) : MovesCounterOnly cmd s t := by
  obtain ⟨key, nonce, hd, -⟩ | hm := runFrame_context_cases h
  · exact absurd hd (hn key nonce)
  · exact hm

/-! ### One step -/

@[simp] theorem State.accept_counter (rest : List HostInput) (s : State) : (s.accept rest).counter = s.counter := rfl

theorem step_of_frame {s : State} {cmd : Frame} {rest : List HostInput} {i : Instr} (hb : s.busy = false)
    (hp : s.pending = .frame cmd :: rest) (hd : decode cmd = .ok i) : step s = exec i (s.accept rest) := by
  simp [step, hp, serveInput, hb, runFrame, hd]

/-- Settles O6: the frame is accepted, then its command is executed. -/
theorem stepRunsDecodedCommand : Obligations.StepRunsDecodedCommand :=
  fun _ _ _ _ hb hp hd => step_of_frame hb hp hd

/-! ### The invariant -/

theorem newContextEffect_inv (key : Vector Byte 32) (nonce : Vector Byte 24) (s : State) :
    (newContextEffect key nonce s).Inv := by
  obtain ⟨hctx, -, -, -, -, -, hbusy⟩ := newContextEffect_fields key nonce s
  refine ⟨hbusy, fun _ i => ?_⟩
  simp only [hctx, contextWords_constant _ _ i.val i.isLt]

theorem resetInput_inv (s : State) : s.resetInput.Inv :=
  ⟨rfl, fun h => by simp at h⟩

/-- Words 0 to 3 are no part of COUNTER. -/
theorem MovesCounterOnly.inv {cmd : Frame} {s t : State} (h : MovesCounterOnly cmd s t)
    (hs : s.valid = true → ∀ i : Fin 4, s.ctx[i.val] = constWords[i.val]) : t.Inv := by
  obtain ⟨hvalid, hbusy, v, -, hctx⟩ := h
  refine ⟨hbusy, fun hv i => ?_⟩
  have h12 : i.val ≠ 12 := by omega
  have h13 : i.val ≠ 13 := by omega
  simp only [hctx, withCounter_getElem, if_neg h12, if_neg h13]
  exact hs (hvalid ▸ hv) i

/-- Settles O15: NEW_CONTEXT writes the constants, reset clears VALID, and any other frame moves COUNTER only. -/
theorem stepKeepsInvariant : Obligations.StepKeepsInvariant := by
  intro s t hs h
  obtain ⟨rfl, -⟩ | ⟨rest, -, rfl⟩ | ⟨cmd, rest, -, -, rfl⟩ | ⟨cmd, rest, -, -, hrun⟩ := step_cases s t h
  · exact hs
  · exact resetInput_inv _
  · exact resetInput_inv _
  · obtain ⟨key, nonce, -, rfl⟩ | hm := runFrame_context_cases hrun
    · exact newContextEffect_inv key nonce _
    · exact hm.inv hs.constants

/-- Settles O14: with VALID = 0 the invariant asks nothing of CTX. -/
theorem resetStateIsIdleWithoutContext : Obligations.ResetStateIsIdleWithoutContext :=
  ⟨rfl, rfl, rfl, fun h => by cases h⟩

/-! ### VALID and the words of CTX -/

/-- Settles O18: the step executes the frame, which moves COUNTER only. -/
theorem contextWordsAreImmutable : Obligations.ContextWordsAreImmutable := by
  intro s t cmd rest hp h hn
  obtain ⟨rfl, -⟩ | ⟨rest', hp', -⟩ | ⟨cmd', rest', hp', -, -⟩ | ⟨cmd', rest', hp', -, hrun⟩ := step_cases s t h
  · exact ⟨fun _ _ _ => rfl, .inl rfl⟩
  all_goals rw [hp] at hp'
  · cases hp'
  · cases hp'
  · cases hp'
    obtain ⟨-, -, v, hmoves, hctx⟩ := runFrame_movesCounterOnly hrun hn
    rw [State.accept_ctx] at hctx
    rw [State.accept_counter] at hmoves
    have hv : t.counter = v := by rw [State.counter, hctx, counterOf_withCounter]
    refine ⟨fun n h12 h13 => ?_, ?_⟩
    · simp only [hctx, withCounter_getElem_of_ne _ v n h12 h13]
    · rw [hv]
      exact hmoves

/-- A step that changes VALID is a NEW_CONTEXT answered OK, or a reset. -/
theorem step_valid_cases {s t : State} (h : step s = .next t) (hne : t.valid ≠ s.valid) :
    (t.valid = true ∧ ∃ cmd rest key nonce, s.pending = .frame cmd :: rest ∧ decode cmd = .ok (.newContext key nonce) ∧
        t.responses = s.responses ++ [[0x00]]) ∨
      (t.valid = false ∧
        ((∃ rest, s.pending = .reset :: rest) ∨ ∃ cmd rest, s.pending = .frameThenReset cmd :: rest)) := by
  obtain ⟨rfl, -⟩ | ⟨rest, hp, rfl⟩ | ⟨cmd, rest, hp, -, rfl⟩ | ⟨cmd, rest, hp, -, hrun⟩ := step_cases s t h
  · exact absurd rfl hne
  · exact .inr ⟨rfl, .inl ⟨rest, hp⟩⟩
  · exact .inr ⟨rfl, .inr ⟨cmd, rest, hp⟩⟩
  · obtain ⟨key, nonce, hd, rfl⟩ | hm := runFrame_context_cases hrun
    · obtain ⟨-, hvalid, hresponses, -⟩ := newContextEffect_fields key nonce (s.accept rest)
      exact .inl ⟨hvalid, cmd, rest, key, nonce, hp, hd, hresponses⟩
    · exact absurd hm.valid hne

/-- Settles O17: by what a step can do to VALID, and by NEW_CONTEXT's own effect for the converse. -/
theorem validChangesOnlyByNewContextAndReset : Obligations.ValidChangesOnlyByNewContextAndReset := by
  intro s t h
  refine ⟨step_valid_cases h, fun cmd rest key nonce hb hp hd => ?_⟩
  rw [step_of_frame hb hp hd, exec_newContext] at h
  injection h with h
  obtain ⟨-, hvalid, -⟩ := newContextEffect_fields key nonce (s.accept rest)
  rw [← h, hvalid]

/-! ### Two states that no response can tell apart (R28, R37, R207) -/

/-- Two outcomes agree: whatever next state the one gives, the other gives one that agrees with it. -/
def OutcomesAgree (r r' : Result) : Prop := ∀ s', r = .next s' → ∃ t', r' = .next t' ∧ s'.Agree t'

theorem State.Agree.outcomes {s t : State} (h : s.Agree t) : OutcomesAgree (.next s) (.next t) := by
  rintro _ ⟨⟩
  exact ⟨t, rfl, h⟩

section
variable {s t : State} (h : s.Agree t)
include h

theorem State.Agree.accept (rest : List HostInput) : (s.accept rest).Agree (t.accept rest) :=
  ⟨h.valid, rfl, rfl, h.responses, h.ctx⟩

theorem State.Agree.respond (status : Byte) (data : List Byte) :
    (s.respond status data).Agree (t.respond status data) :=
  ⟨h.valid, rfl, h.pending, by simp [h.responses], h.ctx⟩

theorem State.Agree.resetInput : s.resetInput.Agree t.resetInput :=
  ⟨rfl, rfl, h.pending, h.responses, fun hv => by simp at hv⟩

theorem State.Agree.deriveSubkey (key : Vector Byte 32) (nonce16 : Vector Byte 16) :
    (s.runHchacha key nonce16).retireX.Agree (t.runHchacha key nonce16).retireX where
  valid := by simp [h.valid]
  busy := by simp [h.busy]
  pending := by simp [h.pending]
  responses := by simp [h.responses]
  ctx := by simpa using h.ctx

/-- NEW_CONTEXT reads no word of CTX: it writes all sixteen from its operands. -/
theorem State.Agree.newContextEffect (key : Vector Byte 32) (nonce : Vector Byte 24) :
    (newContextEffect key nonce s).Agree (newContextEffect key nonce t) := by
  obtain ⟨hctx, hvalid, hresponses, -, -, hpending, hbusy⟩ := newContextEffect_fields key nonce s
  obtain ⟨hctx', hvalid', hresponses', -, -, hpending', hbusy'⟩ := newContextEffect_fields key nonce t
  exact ⟨hvalid.trans hvalid'.symm, hbusy.trans hbusy'.symm, by rw [hpending, hpending', h.pending],
    by rw [hresponses, hresponses', h.responses], fun _ => hctx.trans hctx'.symm⟩

theorem State.Agree.setCounterEffect (counter : Vector Byte 8) :
    (setCounterEffect counter s).Agree (setCounterEffect counter t) where
  valid := h.valid
  busy := rfl
  pending := h.pending
  responses := by simp [setCounterEffect_eq, h.responses]
  ctx hv := by rw [setCounterEffect_ctx, setCounterEffect_ctx, h.ctx hv]

/-- The block loop writes J, X and KS before it reads them: output and CTX come from CTX alone. -/
theorem State.Agree.transformEffect (input : List Byte) (hv : s.valid = true) :
    (transformEffect input s).Agree (transformEffect input t) := by
  obtain ⟨hresponses, hctx, hvalid, hpending, hbusy⟩ := transformEffect_fields input s
  obtain ⟨hresponses', hctx', hvalid', hpending', hbusy'⟩ := transformEffect_fields input t
  obtain ⟨houtput, hloop⟩ := streamLoop_congr (blockCount input.length) input s t (h.ctx hv)
  exact ⟨by rw [hvalid, hvalid', h.valid], hbusy.trans hbusy'.symm, by rw [hpending, hpending', h.pending],
    by rw [hresponses, hresponses', h.responses, houtput], fun _ => by rw [hctx, hctx', hloop]⟩

theorem State.Agree.withContext {run : State → State} (hrun : s.valid = true → (run s).Agree (run t)) :
    OutcomesAgree (withContext run s) (withContext run t) := by
  cases hv : s.valid with
  | false =>
    rw [withContext_of_not_valid run s hv, withContext_of_not_valid run t (h.valid ▸ hv)]
    exact (h.respond _ _).outcomes
  | true =>
    rw [withContext_of_valid run s hv, withContext_of_valid run t (h.valid ▸ hv)]
    exact (hrun hv).outcomes

/-- A frame is answered from VALID and CTX alone. -/
theorem State.Agree.runFrame (cmd : Frame) : OutcomesAgree (runFrame cmd s) (runFrame cmd t) := by
  cases hd : decode cmd with
  | error e =>
    simp only [Machine.runFrame, hd]
    exact (h.respond _ _).outcomes
  | ok i =>
    simp only [Machine.runFrame, hd]
    obtain ⟨key, nonce16, rfl, -⟩ | ⟨key, nonce, rfl, -⟩ | ⟨counter, rfl, -⟩ | ⟨input, rfl, -⟩ | ⟨length, rfl, -⟩ :=
      decode_cases cmd i hd
    · rw [exec_deriveSubkey, exec_deriveSubkey]
      exact ((h.deriveSubkey key nonce16).respond _ _).outcomes
    · rw [exec_newContext, exec_newContext]
      exact (h.newContextEffect key nonce).outcomes
    · exact h.withContext fun _ => h.setCounterEffect counter
    · exact h.withContext (h.transformEffect input)
    · exact h.withContext (h.transformEffect _)

theorem State.Agree.serveInput (input : HostInput) (rest : List HostInput) :
    OutcomesAgree (serveInput input rest s) (serveInput input rest t) := by
  cases input with
  | reset =>
    have hrest : State.Agree { s with pending := rest } { t with pending := rest } :=
      ⟨h.valid, h.busy, rfl, h.responses, h.ctx⟩
    exact hrest.resetInput.outcomes
  | frame cmd =>
    simp only [Machine.serveInput, ← h.busy]
    split
    · exact h.outcomes
    · exact (h.accept rest).runFrame cmd
  | frameThenReset cmd =>
    simp only [Machine.serveInput, ← h.busy]
    split
    · exact h.outcomes
    · exact (h.accept rest).resetInput.outcomes

theorem State.Agree.step : OutcomesAgree (step s) (step t) := by
  simp only [Machine.step, ← h.pending]
  split
  · exact h.outcomes
  · exact h.serveInput _ _

end

/-- Settles O16: `step` is built from operations that each keep agreement. -/
theorem hiddenStateIsNeverObserved : Obligations.HiddenStateIsNeverObserved :=
  fun _ _ h => h.step

end Sys2Proof.Machine
end

section
/-! Memory (20_memory.md): the bytes of a word as numbers, and the set-up commands issued twice. -/

namespace Sys2Proof.Machine

/-! ### Bytes of a word (R53) -/

theorem le32Enc_getElem_toNat (w : Word) (k : Nat) (hk : k < 4) :
    (le32Enc w)[k].toNat = w.toNat / 2 ^ (8 * k) % 256 := by
  rw [le32Enc_getElem, BitVec.extractLsb'_toNat, Nat.shiftRight_eq_div_pow]

/-- The weighted sum of four bytes is below 2^32, so no bit of it is lost. -/
theorem le32Dec_toNat (b : Vector Byte 4) :
    (le32Dec b).toNat = b[0].toNat + 2 ^ 8 * b[1].toNat + 2 ^ 16 * b[2].toNat + 2 ^ 24 * b[3].toNat := by
  rw [le32Dec, BitVec.toNat_ofNat]
  omega

/-- Settles O22: the formulas of LE32_ENC and LE32_DEC, read as numbers. -/
theorem bytesOfAWordInPlace : Obligations.BytesOfAWordInPlace :=
  ⟨fun w k => le32Enc_getElem_toNat w k.val k.isLt, le32Dec_toNat⟩

/-! ### The set-up commands issued twice (R59) -/

/-- The context NEW_CONTEXT writes is a function of its operands alone. -/
theorem newContextEffect_ctx_eq (key : Vector Byte 32) (nonce : Vector Byte 24) (s t : State) :
    (newContextEffect key nonce s).ctx = (newContextEffect key nonce t).ctx := by
  obtain ⟨hs, -⟩ := newContextEffect_fields key nonce s
  obtain ⟨ht, -⟩ := newContextEffect_fields key nonce t
  rw [hs, ht]

theorem newContextEffect_valid (key : Vector Byte 32) (nonce : Vector Byte 24) (s : State) :
    (newContextEffect key nonce s).valid = true := by
  obtain ⟨-, hvalid, -⟩ := newContextEffect_fields key nonce s
  exact hvalid

theorem setCounterEffect_valid (counter : Vector Byte 8) (s : State) :
    (setCounterEffect counter s).valid = s.valid := rfl

/-- The second SET_COUNTER replaces COUNTER by the value it already has. -/
theorem setCounterEffect_twice_ctx (counter : Vector Byte 8) (s : State) :
    (setCounterEffect counter (setCounterEffect counter s)).ctx = (setCounterEffect counter s).ctx := by
  rw [setCounterEffect_ctx, setCounterEffect_ctx, withCounter_withCounter]

theorem exec_setCounter_of_valid (counter : Vector Byte 8) (s : State) (h : s.valid = true) :
    exec (.setCounter counter) s = .next (setCounterEffect counter s) := by
  rw [exec_setCounter, withContext_of_valid _ _ h]

/-- Settles O44: NEW_CONTEXT writes what its operands give, and SET_COUNTER replaces COUNTER. -/
theorem setupIsIdempotent : Obligations.SetupIsIdempotent := by
  constructor
  · intro s key nonce
    refine ⟨_, _, exec_newContext key nonce s, exec_newContext key nonce _, newContextEffect_ctx_eq key nonce _ _, ?_⟩
    rw [newContextEffect_valid, newContextEffect_valid]
  · intro s counter hs
    have hs' := (setCounterEffect_valid counter s).trans hs
    exact ⟨_, _, exec_setCounter_of_valid counter s hs, exec_setCounter_of_valid counter _ hs',
      setCounterEffect_twice_ctx counter s, setCounterEffect_valid counter _⟩

end Sys2Proof.Machine
end

section
/-! Encoding (30_encoding.md): frames and terms, what the decoder refuses, what a frame is answered with, and the
block-count pseudo-commands. -/

namespace Sys2Proof.Machine

/-! ### The 64-bit codec (R114) -/

theorem le64Enc_getElem_toNat (v : BitVec 64) (k : Nat) (hk : k < 8) :
    (le64Enc v)[k].toNat = v.toNat / 2 ^ (8 * k) % 256 := by
  rw [le64Enc_getElem, BitVec.extractLsb'_toNat, Nat.shiftRight_eq_div_pow]

/-- The weighted sum of eight bytes is below 2^64, so no bit of it is lost. -/
theorem le64Dec_toNat (b : Vector Byte 8) :
    (le64Dec b).toNat = b[0].toNat + 2 ^ 8 * b[1].toNat + 2 ^ 16 * b[2].toNat + 2 ^ 24 * b[3].toNat
      + 2 ^ 32 * b[4].toNat + 2 ^ 40 * b[5].toNat + 2 ^ 48 * b[6].toNat + 2 ^ 56 * b[7].toNat := by
  rw [le64Dec, BitVec.toNat_ofNat]
  omega

@[simp] theorem le64Dec_le64Enc (v : BitVec 64) : le64Dec (le64Enc v) = v := by
  apply BitVec.eq_of_toNat_eq
  simp only [le64Dec_toNat, le64Enc_getElem_toNat]
  omega

@[simp] theorem le64Enc_le64Dec (b : Vector Byte 8) : le64Enc (le64Dec b) = b := by
  apply Vector.ext
  intro k hk
  apply BitVec.eq_of_toNat_eq
  rw [le64Enc_getElem_toNat, le64Dec_toNat]
  interval_cases k <;> omega

/-! ### Decoding an encoded term (R82 to R86, R94, R95) -/

/-- The operand of the formats with one field. -/
@[simp] theorem field_of_opcode_toList (op : Byte) {n : Nat} (v : Vector Byte n) :
    field (op :: v.toList) 1 n = v := by
  simpa using field_of_append [op] [] n v

/-- The first operand of the formats with two fields. -/
@[simp] theorem field_of_opcode_append (op : Byte) {n : Nat} (v : Vector Byte n) (after : List Byte) :
    field (op :: (v.toList ++ after)) 1 n = v :=
  field_of_append [op] after n v

/-- The second operand of the formats with two fields. -/
@[simp] theorem field_after_opcode_append (op : Byte) {n m off : Nat} (v : Vector Byte n) (w : Vector Byte m)
    (h : off = n + 1) : field (op :: (v.toList ++ w.toList)) off m = w := by
  subst h
  simpa using field_of_append (op :: v.toList) [] m w

theorem decode_encode_deriveSubkey (key : Vector Byte 32) (nonce16 : Vector Byte 16) :
    decode (encode (.deriveSubkey key nonce16)) = .ok (.deriveSubkey key nonce16) := by
  simp [encode, decode]

theorem decode_encode_newContext (key : Vector Byte 32) (nonce : Vector Byte 24) :
    decode (encode (.newContext key nonce)) = .ok (.newContext key nonce) := by
  simp [encode, decode]

theorem decode_encode_setCounter (counter : Vector Byte 8) :
    decode (encode (.setCounter counter)) = .ok (.setCounter counter) := by
  simp [encode, decode]

theorem decode_encode_transform (input : List Byte) :
    decode (encode (.transform input)) = .ok (.transform input) := rfl

theorem decode_encode_keystream (length : BitVec 64) :
    decode (encode (.keystream length)) = .ok (.keystream length) := by
  simp [encode, decode]

/-- A term and the command it names have one frame. -/
theorem encode_canonical (i : Instr) : encode i.canonical = encode i := by
  cases i <;> rfl

theorem decode_encode (i : Instr) : decode (encode i) = .ok i.canonical := by
  rw [← encode_canonical]
  cases i with
  | deriveSubkey key nonce16 => exact decode_encode_deriveSubkey key nonce16
  | newContext key nonce | init key nonce => exact decode_encode_newContext key nonce
  | setCounter counter => exact decode_encode_setCounter counter
  | transform input | encrypt input | decrypt input => exact decode_encode_transform input
  | encryptBlocks _ input | decryptBlocks _ input => exact decode_encode_transform input
  | keystream length => exact decode_encode_keystream length
  | keystreamBlocks blocks => exact decode_encode_keystream (blocksLength blocks)

/-- Settles O1: a term's frame is that of its command, and each format gives its operands back. -/
theorem decodeOfEncodeIsTheCommand : Obligations.DecodeOfEncodeIsTheCommand :=
  fun i _ => decode_encode i

/-- Settles O4: the written frames are the encodings of these commands. -/
theorem writtenFramesDecode : Obligations.WrittenFramesDecode :=
  ⟨decode_encode (.deriveSubkey (Vector.replicate 32 0x11) (Vector.replicate 16 0x22)),
    decode_encode (.newContext (Vector.replicate 32 0x11) (Vector.replicate 24 0x22)),
    decode_encode (.setCounter #v[0x01, 0, 0, 0, 0, 0, 0, 0x80]),
    decode_encode (.transform [0x41, 0x42, 0x43]),
    decode_encode (.keystream 384)⟩

/-! ### What the decoder accepts and refuses (R90, R91) -/

/-- Settles O2: by the five forms of an accepted frame; the length field is the one that is converted. -/
theorem encodeOfDecodeIsTheFrame : Obligations.EncodeOfDecodeIsTheFrame := by
  intro cmd i hd
  have hi : encode i = cmd ∧ i.WellFormed ∧ i.canonical = i := by
    obtain ⟨key, nonce16, rfl, rfl⟩ | ⟨key, nonce, rfl, rfl⟩ | ⟨counter, rfl, rfl⟩ | ⟨input, rfl, rfl⟩ |
      ⟨length, rfl, rfl⟩ := decode_cases cmd i hd
    · exact ⟨rfl, rfl, rfl⟩
    · exact ⟨rfl, rfl, rfl⟩
    · exact ⟨rfl, rfl, rfl⟩
    · exact ⟨rfl, rfl, rfl⟩
    · exact ⟨by rw [encode, le64Enc_le64Dec], rfl, rfl⟩
  obtain ⟨he, hw, hc⟩ := hi
  exact ⟨he, hw, hc, by rw [he, hd]⟩

/-- The opcodes of R91 as a range. -/
theorem opcode_legal_iff (op : Byte) :
    (1 ≤ op.toNat ∧ op.toNat ≤ 5) ↔ op = 0x01 ∨ op = 0x02 ∨ op = 0x03 ∨ op = 0x04 ∨ op = 0x05 := by
  bv_omega

theorem decode_of_illegalFrame {cmd : Frame} (h : IllegalFrame cmd) : decode cmd = .error .invalidCommand := by
  obtain rfl | ⟨op, payload, rfl, hop⟩ := h
  · rfl
  · rw [opcode_legal_iff] at hop
    simp only [not_or] at hop
    obtain ⟨h1, h2, h3, h4, h5⟩ := hop
    simp only [decode, if_neg h1, if_neg h2, if_neg h3, if_neg h4, if_neg h5]

theorem decode_of_wrongLengthFrame {cmd : Frame} (h : WrongLengthFrame cmd) : decode cmd = .error .invalidLength := by
  obtain ⟨op, payload, rfl, ⟨rfl, hl⟩ | ⟨rfl, hl⟩ | ⟨rfl, hl⟩ | ⟨rfl, hl⟩⟩ := h
  all_goals simpa [decode] using hl

/-- A legal opcode with the length it requires is accepted. -/
theorem exists_decode_of_legal {cmd : Frame} (hi : ¬ IllegalFrame cmd) (hw : ¬ WrongLengthFrame cmd) :
    ∃ i, decode cmd = .ok i := by
  cases cmd with
  | nil => exact absurd (.inl rfl) hi
  | cons op payload =>
    have hop : 1 ≤ op.toNat ∧ op.toNat ≤ 5 := by
      by_contra h
      exact hi (.inr ⟨op, payload, rfl, h⟩)
    obtain rfl | rfl | rfl | rfl | rfl := (opcode_legal_iff op).mp hop
    · have hl : payload.length = 48 := by simpa [WrongLengthFrame] using hw
      simp [decode, hl]
    · have hl : payload.length = 56 := by simpa [WrongLengthFrame] using hw
      simp [decode, hl]
    · have hl : payload.length = 8 := by simpa [WrongLengthFrame] using hw
      simp [decode, hl]
    · exact ⟨.transform payload, rfl⟩
    · have hl : payload.length = 8 := by simpa [WrongLengthFrame] using hw
      simp [decode, hl]

/-- The decoder's two errors, each with the frames it is given for. -/
theorem decode_error_cases {cmd : Frame} {e : CommandError} (h : decode cmd = .error e) :
    (IllegalFrame cmd ∧ e = .invalidCommand) ∨ (WrongLengthFrame cmd ∧ e = .invalidLength) := by
  by_cases hi : IllegalFrame cmd
  · cases (decode_of_illegalFrame hi).symm.trans h
    exact .inl ⟨hi, rfl⟩
  · by_cases hw : WrongLengthFrame cmd
    · cases (decode_of_wrongLengthFrame hw).symm.trans h
      exact .inr ⟨hw, rfl⟩
    · obtain ⟨i, hd⟩ := exists_decode_of_legal hi hw
      cases hd.symm.trans h

theorem decode_eq_invalidCommand_iff (cmd : Frame) : decode cmd = .error .invalidCommand ↔ IllegalFrame cmd := by
  refine ⟨fun h => ?_, decode_of_illegalFrame⟩
  obtain ⟨hi, -⟩ | ⟨-, he⟩ := decode_error_cases h
  · exact hi
  · cases he

theorem decode_eq_invalidLength_iff (cmd : Frame) : decode cmd = .error .invalidLength ↔ WrongLengthFrame cmd := by
  refine ⟨fun h => ?_, decode_of_wrongLengthFrame⟩
  obtain ⟨-, he⟩ | ⟨hw, -⟩ := decode_error_cases h
  · cases he
  · exact hw

theorem decode_ne_noContext (cmd : Frame) : decode cmd ≠ .error .noContext := by
  intro h
  obtain ⟨-, he⟩ | ⟨-, he⟩ := decode_error_cases h <;> cases he

/-- Settles O3: a frame is accepted when neither of the decoder's two errors is given for it. -/
theorem decoderRefusesExactly : Obligations.DecoderRefusesExactly := by
  intro cmd
  refine ⟨decode_eq_invalidCommand_iff cmd, decode_eq_invalidLength_iff cmd, decode_ne_noContext cmd, ?_⟩
  rw [← decode_eq_invalidCommand_iff, ← decode_eq_invalidLength_iff]
  cases hd : decode cmd with
  | ok i => simp
  | error e =>
    obtain ⟨-, rfl⟩ | ⟨-, rfl⟩ := decode_error_cases hd
    · simp
    · simp

/-! ### The other names (R94, R95) -/

/-- A term that the assembler accepts does what the command it names does. -/
theorem exec_canonical {i : Instr} (hw : i.WellFormed) (s : State) : exec i.canonical s = exec i s := by
  cases i with
  | encryptBlocks blocks input => exact (exec_encryptBlocks blocks input s (of_decide_eq_true hw)).symm
  | decryptBlocks blocks input => exact (exec_decryptBlocks blocks input s (of_decide_eq_true hw)).symm
  | keystreamBlocks blocks => exact (exec_keystreamBlocks blocks s (of_decide_eq_true hw)).symm
  | _ => rfl

/-- Settles O5: each of the three names is accepted by the assembler, and its command is the one it names. -/
theorem otherNamesAreTheirCommand : Obligations.OtherNamesAreTheirCommand :=
  ⟨fun input => ⟨(encode_canonical (.encrypt input)).symm, (encode_canonical (.decrypt input)).symm⟩,
    fun key nonce => (encode_canonical (.init key nonce)).symm,
    fun input s =>
      ⟨(exec_canonical (i := .encrypt input) rfl s).symm, (exec_canonical (i := .decrypt input) rfl s).symm⟩,
    fun key nonce s => (exec_canonical (i := .init key nonce) rfl s).symm⟩

theorem blocksLength_toNat {blocks : Nat} (h : 64 * blocks ≤ 2 ^ 64 - 1) :
    (blocksLength blocks).toNat = 64 * blocks := by
  rw [blocksLength, BitVec.toNat_ofNat]
  omega

theorem transformBlocks_of_ne {blocks : Nat} {input : List Byte} (h : input.length ≠ 64 * blocks) (s : State) :
    transformBlocks blocks input s = .refused .blockCountMismatch :=
  if_neg h

theorem execKeystreamBlocks_of_gt {blocks : Nat} (h : ¬ 64 * blocks ≤ 2 ^ 64 - 1) (s : State) :
    execKeystreamBlocks blocks s = .refused .blockCountTooLarge :=
  if_neg h

/-- A term that the assembler refuses has no next state. -/
theorem wellFormed_of_exec {i : Instr} {s t : State} (h : exec i s = .next t) : i.WellFormed := by
  cases i with
  | encryptBlocks blocks input | decryptBlocks blocks input =>
    by_contra hw
    cases (transformBlocks_of_ne (fun hl => hw (decide_eq_true hl)) s).symm.trans h
  | keystreamBlocks blocks =>
    by_contra hw
    cases (execKeystreamBlocks_of_gt (fun hl => hw (decide_eq_true hl)) s).symm.trans h
  | _ => rfl

/-! ### What a frame is answered with (R88, R89) -/

theorem step_eq_runFrame {s : State} {cmd : Frame} {rest : List HostInput} (hb : s.busy = false)
    (hp : s.pending = .frame cmd :: rest) : step s = runFrame cmd (s.accept rest) := by
  simp [step, hp, serveInput, hb]

/-- A command's outcome from `s` to `t`: NoContext where a context is needed and there is none, else status OK with `n`
bytes of data. -/
inductive Answered (needs : Bool) (n : Nat) (s t : State) : Prop
  | noContext (hneeds : needs = true) (hvalid : s.valid = false) (ht : t = s.raise .noContext)
  | ok (data : List Byte) (hvalid : needs = true → s.valid = true)
      (hresponses : t.responses = s.responses ++ [statusOk :: data]) (hlength : data.length = n)

/-- How many bytes of data the response has on success (R88), the other names as the command they name. -/
def dataLength : Instr → Nat
  | .deriveSubkey _ _ => 32
  | .newContext _ _ | .init _ _ => 0
  | .setCounter _ => 0
  | .transform input | .encrypt input | .decrypt input => input.length
  | .encryptBlocks _ input | .decryptBlocks _ input => input.length
  | .keystream length => length.toNat
  | .keystreamBlocks blocks => 64 * blocks

/-- One output byte per input byte (R200). -/
theorem transformEffect_output (input : List Byte) (s : State) :
    ∃ output, (transformEffect input s).responses = s.responses ++ [statusOk :: output] ∧
      output.length = input.length := by
  obtain ⟨hresponses, -⟩ := transformEffect_fields input s
  exact ⟨_, hresponses, streamLoop_length _ _ _ (length_le_blockCount _)⟩

theorem withContext_answered {run : State → State} {s t : State} {data : List Byte}
    (h : withContext run s = .next t) (hresponses : (run s).responses = s.responses ++ [statusOk :: data]) :
    Answered true data.length s t := by
  obtain ⟨hv, hraise⟩ | ⟨hv, hrun⟩ := withContext_cases run s
  · cases hraise.symm.trans h
    exact .noContext rfl hv rfl
  · cases hrun.symm.trans h
    exact .ok data (fun _ => hv) hresponses rfl

theorem withContext_transformEffect_answered {input : List Byte} {s t : State}
    (h : withContext (transformEffect input) s = .next t) : Answered true input.length s t := by
  obtain ⟨output, hresponses, hlength⟩ := transformEffect_output input s
  exact hlength ▸ withContext_answered h hresponses

theorem withContext_keystreamEffect_answered {length : BitVec 64} {s t : State}
    (h : withContext (keystreamEffect length) s = .next t) : Answered true length.toNat s t := by
  have ha := withContext_transformEffect_answered (input := zeroInput length.toNat) h
  rwa [zeroInput, List.length_replicate] at ha

theorem exec_newContext_answered {key : Vector Byte 32} {nonce : Vector Byte 24} {s t : State}
    (h : exec (.newContext key nonce) s = .next t) : Answered false 0 s t := by
  cases (exec_newContext key nonce s).symm.trans h
  obtain ⟨-, -, hresponses, -⟩ := newContextEffect_fields key nonce s
  exact .ok [] nofun hresponses rfl

/-- Every outcome of a term that is executed: what its command answers. -/
theorem exec_answered {i : Instr} {s t : State} (h : exec i s = .next t) :
    Answered (needsContext i) (dataLength i) s t := by
  have hw := wellFormed_of_exec h
  rw [← exec_canonical hw] at h
  cases i with
  | deriveSubkey key nonce16 =>
    cases (exec_deriveSubkey key nonce16 s).symm.trans h
    exact .ok (hchacha20 key nonce16).toList nofun (by simp) Vector.length_toList
  | newContext | init => exact exec_newContext_answered h
  | setCounter => exact withContext_answered (data := []) h rfl
  | transform | encrypt | decrypt | encryptBlocks | decryptBlocks => exact withContext_transformEffect_answered h
  | keystream => exact withContext_keystreamEffect_answered h
  | keystreamBlocks blocks =>
    rw [dataLength, ← blocksLength_toNat (of_decide_eq_true hw)]
    exact withContext_keystreamEffect_answered h

theorem contextFrame_iff (cmd : Frame) :
    ContextFrame cmd ↔ ∃ i, decode cmd = .ok i ∧ needsContext i = true := by
  constructor
  · rintro ⟨op, payload, rfl, ⟨rfl, hl⟩ | rfl | ⟨rfl, hl⟩⟩
    · exact ⟨.setCounter _, by simp only [decode, hl]; rfl, rfl⟩
    · exact ⟨.transform payload, rfl, rfl⟩
    · exact ⟨.keystream _, by simp only [decode, hl]; rfl, rfl⟩
  · rintro ⟨i, hd, hneeds⟩
    obtain ⟨key, nonce16, rfl, -⟩ | ⟨key, nonce, rfl, -⟩ | ⟨counter, rfl, rfl⟩ | ⟨input, rfl, rfl⟩ |
      ⟨length, rfl, rfl⟩ := decode_cases cmd i hd
    · cases hneeds
    · cases hneeds
    · exact ⟨_, _, rfl, .inl ⟨rfl, by simp⟩⟩
    · exact ⟨_, _, rfl, .inr (.inl rfl)⟩
    · exact ⟨_, _, rfl, .inr (.inr ⟨rfl, by simp⟩)⟩

/-- A response determines its status byte and its data. -/
theorem response_inj {responses : List Frame} {status status' : Byte} {data data' : List Byte}
    (h : responses ++ [status :: data] = responses ++ [status' :: data']) : status = status' ∧ data = data' := by
  simpa using h

/-- Settles O8: the decoder's error gives its own status; a decoded command ends with NoContext or with OK. -/
theorem statusByteTellsTheCause : Obligations.StatusByteTellsTheCause := by
  intro s t cmd rest status data hb hp hstep hr
  rw [step_eq_runFrame hb hp] at hstep
  rw [← decode_eq_invalidCommand_iff, ← decode_eq_invalidLength_iff, contextFrame_iff]
  obtain ⟨i, hd, hrun⟩ | ⟨e, hd, hrun⟩ := runFrame_cases cmd (s.accept rest)
  · obtain ⟨hneeds, hvalid, rfl⟩ | ⟨data', hvalid, hresponses, -⟩ := exec_answered (hrun.symm.trans hstep)
    · obtain ⟨rfl, rfl⟩ := response_inj hr
      rw [State.accept_valid] at hvalid
      simp [hd, hneeds, hvalid, errorCode]
    · obtain ⟨rfl, rfl⟩ := response_inj (hr.symm.trans hresponses)
      rw [State.accept_valid] at hvalid
      simpa [hd, statusOk] using hvalid
  · cases hrun.symm.trans hstep
    obtain ⟨rfl, rfl⟩ := response_inj hr
    cases e with
    | invalidLength => simp [hd, errorCode]
    | invalidCommand => simp [hd, errorCode]
    | noContext => exact absurd hd (decode_ne_noContext cmd)

/-- Settles O9: status OK leaves a command no outcome but its data, of the length R88 gives. -/
theorem responseLengthOnSuccess : Obligations.ResponseLengthOnSuccess := by
  intro s t cmd rest i data hb hp hd hstep hr
  have hlength : data.length = dataLength i := by
    rw [step_of_frame hb hp hd] at hstep
    obtain ⟨-, -, rfl⟩ | ⟨data', -, hresponses, hn⟩ := exec_answered hstep
    · obtain ⟨h, -⟩ := response_inj hr
      cases h
    · obtain ⟨-, rfl⟩ := response_inj (hr.symm.trans hresponses)
      exact hn
  refine ⟨?_, ?_, ?_, ?_, ?_⟩
  · rintro key nonce16 rfl
    exact hlength
  · rintro key nonce rfl
    exact hlength
  · rintro counter rfl
    exact hlength
  · rintro input rfl
    exact hlength
  · rintro length rfl
    exact hlength

/-! ### Block counts (R95) -/

theorem blockCount_mul (blocks : Nat) : blockCount (64 * blocks) = blocks := by
  unfold blockCount
  omega

/-- TRANSFORM of whole blocks under a context: the output's length, and COUNTER advanced by their number. -/
theorem transformEffect_blocks {blocks : Nat} {input : List Byte} {s : State} (hv : s.valid = true)
    (hl : input.length = 64 * blocks) :
    ∃ output, (transformEffect input s).responses = s.responses ++ [statusOk :: output] ∧
      output.length = 64 * blocks ∧ (transformEffect input s).counter = s.counter + BitVec.ofNat 64 blocks ∧
      (transformEffect input s).valid = true ∧ (transformEffect input s).busy = false := by
  obtain ⟨-, -, hvalid, -, hbusy⟩ := transformEffect_fields input s
  obtain ⟨output, hresponses, hlength⟩ := transformEffect_output input s
  have hcounter : (transformEffect input s).counter = s.counter + BitVec.ofNat 64 blocks := by
    rw [State.counter, transformEffect_ctx, counterOf_withCounter, hl, blockCount_mul]
  exact ⟨output, hresponses, hlength.trans hl, hcounter, hvalid.trans hv, hbusy⟩

/-- Settles O40: an accepted term does what its expansion does, TRANSFORM of whole blocks. -/
theorem blockCountCommands : Obligations.BlockCountCommands := by
  refine ⟨fun s blocks input i hi => ⟨fun hv hl => ?_, fun hl => ?_⟩,
    fun s blocks => ⟨fun hv hb => ?_, fun hb => ?_⟩⟩
  · have hexec : exec (.transform input) s = .next (transformEffect input s) :=
      withContext_of_valid _ s hv
    have hname : exec i s = exec (.transform input) s := by
      obtain rfl | rfl := hi
      · exact (exec_canonical (i := .encryptBlocks blocks input) (decide_eq_true hl) s).symm
      · exact (exec_canonical (i := .decryptBlocks blocks input) (decide_eq_true hl) s).symm
    obtain ⟨output, hanswer⟩ := transformEffect_blocks hv hl
    exact ⟨_, output, hname.trans hexec, hexec, hanswer⟩
  · obtain rfl | rfl := hi
    · exact transformBlocks_of_ne hl s
    · exact transformBlocks_of_ne hl s
  · have hfits : 64 * blocks ≤ 2 ^ 64 - 1 := by omega
    have hexec : exec (.keystream (blocksLength blocks)) s = .next (keystreamEffect (blocksLength blocks) s) :=
      withContext_of_valid _ s hv
    have hname : exec (.keystreamBlocks blocks) s = exec (.keystream (blocksLength blocks)) s :=
      (exec_canonical (i := .keystreamBlocks blocks) (decide_eq_true hfits) s).symm
    have hl : (zeroInput (blocksLength blocks).toNat).length = 64 * blocks := by
      rw [zeroInput, List.length_replicate, blocksLength_toNat hfits]
    obtain ⟨output, hanswer⟩ := transformEffect_blocks hv hl
    exact ⟨_, output, hname.trans hexec, hexec, hanswer⟩
  · exact execKeystreamBlocks_of_gt (by omega) s

end Sys2Proof.Machine
end

section
/-! The Word Codec (41_word_codec.md): encoding and decoding are inverse, word by word and on longer byte strings. -/

namespace Sys2Proof.Machine

/-! ### One word (R112) -/

@[simp] theorem le32Dec_le32Enc (w : Word) : le32Dec (le32Enc w) = w := by
  apply BitVec.eq_of_toNat_eq
  simp only [le32Dec_toNat, le32Enc_getElem_toNat]
  omega

@[simp] theorem le32Enc_le32Dec (b : Vector Byte 4) : le32Enc (le32Dec b) = b := by
  apply Vector.ext
  intro k hk
  apply BitVec.eq_of_toNat_eq
  rw [le32Enc_getElem_toNat, le32Dec_toNat]
  interval_cases k <;> omega

/-- Settles O20: each composition is the identity, on words and on 4-byte strings. -/
theorem wordCodecIsABijection : Obligations.WordCodecIsABijection :=
  ⟨le32Enc_le32Dec, le32Dec_le32Enc⟩

/-! ### Several words (R113) -/

theorem wordsEnc_getElem_eq_le32Enc {k : Nat} (n : Nat) (w : Vector Word k) (h : n ≤ 4 * k) (p : Nat) (hp : p < n) :
    (wordsEnc n w h)[p] = (le32Enc w[p / 4])[p % 4] := by
  rw [wordsEnc_getElem, le32Enc_getElem]

/-- The four bytes of WORDS_ENC(w) from offset 4i are those of word i. -/
theorem slice_wordsEnc {k : Nat} (n : Nat) (w : Vector Word k) (h : n ≤ 4 * k) (i : Nat) (hi : 4 * i + 4 ≤ n) :
    slice (wordsEnc n w h) (4 * i) 4 hi = le32Enc w[i] := by
  apply Vector.ext
  intro j hj
  have hdiv : (4 * i + j) / 4 = i := by omega
  have hmod : (4 * i + j) % 4 = j := by omega
  simp only [slice_getElem, wordsEnc_getElem_eq_le32Enc, hdiv, hmod]

theorem wordsDec_wordsEnc {n k : Nat} (w : Vector Word k) (h : n ≤ 4 * k) (h' : 4 * k ≤ n) :
    wordsDec k (wordsEnc n w h) h' = w := by
  apply Vector.ext
  intro i hi
  rw [wordsDec_getElem, slice_wordsEnc, le32Dec_le32Enc]

theorem wordsEnc_wordsDec {n k : Nat} (b : Vector Byte n) (h : n ≤ 4 * k) (h' : 4 * k ≤ n) :
    wordsEnc n (wordsDec k b h') h = b := by
  apply Vector.ext
  intro p hp
  rw [wordsEnc_getElem_eq_le32Enc, wordsDec_getElem, le32Enc_le32Dec, slice_getElem]
  simp only [Nat.div_add_mod]

/-! ### The 64-bit codec and the counter's two words (R114) -/

theorem le64Dec_toNat_eq_ctrDec (b : Vector Byte 8) :
    (le64Dec b).toNat = (ctrDec b).1.toNat + 2 ^ 32 * (ctrDec b).2.toNat := by
  rw [le64Dec_eq_append, toNat_append_word, Nat.add_comm, Nat.mul_comm]

/-- Settles O21: the codecs of several words are inverse word by word, and LE64_DEC is the pair of words of CTR_DEC. -/
theorem longCodecsAgree : Obligations.LongCodecsAgree :=
  ⟨fun b => wordsEnc_wordsDec b _ _, fun w => wordsDec_wordsEnc w _ _, le64Dec_toNat_eq_ctrDec, le64Enc_le64Dec,
    le64Dec_le64Enc⟩

/-! ### The constant words (R116) -/

/-- Settles O23: the four words are decoded from the sixteen bytes of SIGMA. -/
theorem constantWordsAreExpand32ByteK : Obligations.ConstantWordsAreExpand32ByteK := by
  unfold Obligations.ConstantWordsAreExpand32ByteK
  decide

end Sys2Proof.Machine
end

section
/-! The Permutation Core (42_permutation.md): the rotation, the quarter round slot by slot, the four quarter rounds of a round,
and the permutation as a bijection. -/

namespace Sys2Proof.Machine

/-! ### ROTL32 (R132) -/

/-- The bits from n up are those of v from 0 up; the n bits below are the top n bits of v. -/
theorem rotl32_getLsbD (v : Word) {n k : Nat} (hn : n < 32) (hk : k < 32) :
    (rotl32 v n).getLsbD k = if k < n then v.getLsbD (32 - n + k) else v.getLsbD (k - n) := by
  rw [rotl32, BitVec.getLsbD_rotateLeft, Nat.mod_eq_of_lt hn]
  simp [hk, Bool.cond_decide]

theorem rotl32_getLsbD_add_mod (v : Word) {n k : Nat} (hn : n < 32) (hk : k < 32) :
    (rotl32 v n).getLsbD ((k + n) % 32) = v.getLsbD k := by
  rw [rotl32_getLsbD v hn (Nat.mod_lt _ (by decide))]
  by_cases hwrap : k + n < 32
  · rw [Nat.mod_eq_of_lt hwrap, if_neg (by omega), Nat.add_sub_cancel]
  · have hmod : (k + n) % 32 = k + n - 32 := by omega
    have hback : 32 - n + (k + n - 32) = k := by omega
    rw [hmod, if_pos (by omega), hback]

/-- The two summands share no bit: the left one is a multiple of 2^n, the right one is below 2^n. -/
theorem rotl32_toNat (v : Word) {n : Nat} (hn : n < 32) :
    (rotl32 v n).toNat = v.toNat * 2 ^ n % 2 ^ 32 + v.toNat / 2 ^ (32 - n) := by
  have hpow : 2 ^ 32 = 2 ^ (32 - n) * 2 ^ n := by rw [← Nat.pow_add, Nat.sub_add_cancel hn.le]
  have hlow : v.toNat / 2 ^ (32 - n) < 2 ^ n := Nat.div_lt_of_lt_mul (hpow ▸ v.isLt)
  rw [rotl32, BitVec.toNat_rotateLeft, Nat.mod_eq_of_lt hn, Nat.shiftRight_eq_div_pow, Nat.shiftLeft_eq, hpow,
    Nat.mul_mod_mul_right, ← Nat.shiftLeft_eq, Nat.shiftLeft_add_eq_or_of_lt hlow]

/-- Bit k goes to (k + n) mod 32 and from there back to k. -/
theorem rotl32_rotl32_sub (v : Word) {n : Nat} (hpos : 0 < n) (hn : n < 32) : rotl32 (rotl32 v n) (32 - n) = v := by
  apply BitVec.eq_of_getLsbD_eq
  intro k hk
  have hback : ((k + n) % 32 + (32 - n)) % 32 = k := by omega
  calc (rotl32 (rotl32 v n) (32 - n)).getLsbD k
      = (rotl32 (rotl32 v n) (32 - n)).getLsbD (((k + n) % 32 + (32 - n)) % 32) := by rw [hback]
    _ = (rotl32 v n).getLsbD ((k + n) % 32) :=
        rotl32_getLsbD_add_mod _ (by omega) (Nat.mod_lt _ (by decide))
    _ = v.getLsbD k := rotl32_getLsbD_add_mod v hn hk

/-- Settles O24: the bits, the formula as a sum of disjoint parts, and the inverse by moving each bit twice. -/
theorem rotationMovesBits : Obligations.RotationMovesBits := by
  intro v n hpos hle
  have hn : n < 32 := Nat.lt_succ_of_le hle
  exact ⟨fun k hk => rotl32_getLsbD_add_mod v hn hk, rotl32_toNat v hn, rotl32_rotl32_sub v hpos hn⟩

theorem rotl32_injective {n : Nat} (hpos : 0 < n) (hn : n < 32) : Function.Injective fun v => rotl32 v n :=
  Function.LeftInverse.injective (g := fun v => rotl32 v (32 - n)) fun v => rotl32_rotl32_sub v hpos hn

@[simp] theorem rotl32_zero (n : Nat) : rotl32 0#32 n = 0#32 := by
  apply BitVec.eq_of_getLsbD_eq
  intro k hk
  simp [rotl32, BitVec.getLsbD_rotateLeft]

/-! ### The quarter round (R134) -/

theorem ext_words {x y : Words} (h : ∀ k : Fin 16, x[k] = y[k]) : x = y :=
  Vector.ext fun k hk => h ⟨k, hk⟩

theorem ne_of_nodup_slots {a b c d : Fin 16} (h : [a, b, c, d].Nodup) :
    (a ≠ b ∧ a ≠ c ∧ a ≠ d) ∧ (b ≠ c ∧ b ≠ d) ∧ c ≠ d := by
  simpa using h

/-- Settles O25: the slots of the four lines, one after the other. -/
theorem quarterRoundWords : Obligations.QuarterRoundWords := by
  intro x a b c d hnodup
  obtain ⟨⟨hab, hac, had⟩, ⟨hbc, hbd⟩, hcd⟩ := ne_of_nodup_slots hnodup
  simp only [qr, qrLine_getElem, hab, hac, had, hbc, hbd, hcd, hab.symm, hac.symm, had.symm, hbc.symm, hbd.symm, hcd.symm,
    ne_eq, not_false_eq_true, if_true, if_false, true_and]
  intro k hk
  obtain ⟨hka, hkb, hkc, hkd⟩ : k ≠ a ∧ k ≠ b ∧ k ≠ c ∧ k ≠ d := by simpa using hk
  simp only [hka, hkb, hkc, hkd, if_false]

/-- The slots of a quadruple. -/
def Quad.slots (q : Quad) : List (Fin 16) := [q.1, q.2.1, q.2.2.1, q.2.2.2]

theorem qrAt_getElem_of_notMem (x : Words) {q : Quad} (hq : q.slots.Nodup) {k : Fin 16} (hk : k ∉ q.slots) :
    (qrAt x q)[k] = x[k] := by
  obtain ⟨-, -, -, -, hframe⟩ := quarterRoundWords x _ _ _ _ hq
  exact hframe k hk

/-- The two files hold the same words in the slots `ks`. -/
def AgreeOn (ks : List (Fin 16)) (x y : Words) : Prop := ∀ k ∈ ks, x[k] = y[k]

/-- QR reads its own four slots only. -/
theorem qrAt_agreeOn {x y : Words} {q : Quad} (hq : q.slots.Nodup) (h : AgreeOn q.slots x y) :
    AgreeOn q.slots (qrAt x q) (qrAt y q) := by
  obtain ⟨a, b, c, d⟩ := q
  obtain ⟨ha, hb, hc, hd⟩ : x[a] = y[a] ∧ x[b] = y[b] ∧ x[c] = y[c] ∧ x[d] = y[d] := by
    simpa [AgreeOn, Quad.slots] using h
  obtain ⟨hxa, hxb, hxc, hxd, -⟩ := quarterRoundWords x a b c d hq
  obtain ⟨hya, hyb, hyc, hyd, -⟩ := quarterRoundWords y a b c d hq
  simp only [AgreeOn, Quad.slots, List.forall_mem_cons, qrAt]
  rw [hxa, hxb, hxc, hxd, hya, hyb, hyc, hyd, ha, hb, hc, hd]
  simp

/-! ### The four quarter rounds of a round (R137) -/

/-- No slot stands twice among the quadruples of the list. -/
def DisjointLanes (l : List Quad) : Prop := (l.flatMap Quad.slots).Nodup

theorem disjointLanes_cons {p : Quad} {l : List Quad} (h : DisjointLanes (p :: l)) :
    p.slots.Nodup ∧ DisjointLanes l ∧ ∀ k ∈ p.slots, k ∉ l.flatMap Quad.slots := by
  rw [DisjointLanes, List.flatMap_cons, List.nodup_append'] at h
  obtain ⟨hp, hl, hdisj⟩ := h
  exact ⟨hp, hl, fun k hk => hdisj hk⟩

theorem foldl_qrAt_getElem_of_notMem {l : List Quad} (hl : DisjointLanes l) (x : Words) {k : Fin 16}
    (hk : k ∉ l.flatMap Quad.slots) : (l.foldl qrAt x)[k] = x[k] := by
  induction l generalizing x with
  | nil => rfl
  | cons p l ih =>
    obtain ⟨hp, hl', -⟩ := disjointLanes_cons hl
    obtain ⟨hkp, hkl⟩ : k ∉ p.slots ∧ k ∉ l.flatMap Quad.slots := by simpa using hk
    rw [List.foldl_cons, ih hl' _ hkl, qrAt_getElem_of_notMem x hp hkp]

/-- Quarter rounds on disjoint lanes act as parallel units: each leaves in its slots what it would leave there alone. -/
theorem foldl_qrAt_getElem {l : List Quad} (hl : DisjointLanes l) (x : Words) {q : Quad} (hq : q ∈ l) :
    AgreeOn q.slots (l.foldl qrAt x) (qrAt x q) := by
  induction l generalizing x with
  | nil => cases hq
  | cons p l ih =>
    obtain ⟨hp, hl', hdisj⟩ := disjointLanes_cons hl
    intro k hk
    rw [List.foldl_cons]
    cases hq with
    | head => exact foldl_qrAt_getElem_of_notMem hl' _ (hdisj k hk)
    | tail _ hq =>
      have huntouched : AgreeOn q.slots (qrAt x p) x := fun j hj =>
        qrAt_getElem_of_notMem x hp fun hjp => hdisj j hjp (List.mem_flatMap_of_mem hq hj)
      have hqnodup : q.slots.Nodup := (List.nodup_flatMap.mp hl').1 q hq
      rw [ih hl' _ hq k hk, qrAt_agreeOn hqnodup huntouched k hk]

/-- Each of the sixteen slots stands exactly once among the quadruples of the list. -/
def CoversOnce (l : List Quad) : Prop := (l.flatMap Quad.slots).Perm (List.finRange 16)

theorem CoversOnce.disjointLanes {l : List Quad} (h : CoversOnce l) : DisjointLanes l :=
  h.nodup_iff.mpr (List.nodup_finRange 16)

theorem coversOnce_columns : CoversOnce columns := by
  unfold CoversOnce
  decide

theorem coversOnce_diagonals : CoversOnce diagonals := by
  unfold CoversOnce
  decide

/-- Every slot is in some quadruple, and what is left there does not depend on the order. -/
theorem foldl_qrAt_perm {order l : List Quad} (hl : CoversOnce l) (hperm : order.Perm l) (x : Words) :
    order.foldl qrAt x = l.foldl qrAt x := by
  have horder : DisjointLanes order := (hperm.flatMap_right _).nodup_iff.mpr hl.disjointLanes
  apply ext_words
  intro k
  obtain ⟨q, hq, hk⟩ := List.mem_flatMap.mp (hl.mem_iff.mpr (List.mem_finRange k))
  rw [foldl_qrAt_getElem horder x (hperm.mem_iff.mpr hq) k hk, foldl_qrAt_getElem hl.disjointLanes x hq k hk]

/-- Settles O26: both lists of quadruples cover the slots once, so their order is free and each lane stands alone. -/
theorem lanesOfARoundCommute : Obligations.LanesOfARoundCommute :=
  ⟨coversOnce_columns, coversOnce_diagonals,
    fun _ x h => foldl_qrAt_perm coversOnce_columns h x,
    fun _ x h => foldl_qrAt_perm coversOnce_diagonals h x,
    fun x _ hq => foldl_qrAt_getElem coversOnce_columns.disjointLanes x hq,
    fun x _ hq => foldl_qrAt_getElem coversOnce_diagonals.disjointLanes x hq⟩

/-! ### The permutation is a bijection (R139) -/

/-- The slots other than d still show x[b] and the sum, so x[a] is known; then d shows x[d]. -/
theorem qrLine_injective {a b d : Fin 16} {n : Nat} (hba : b ≠ a) (hbd : b ≠ d) (had : a ≠ d) (hpos : 0 < n) (hn : n < 32) :
    Function.Injective (qrLine a b d n) := by
  intro x y h
  have hslot (k : Fin 16) : (qrLine a b d n x)[k] = (qrLine a b d n y)[k] := by rw [h]
  simp only [qrLine_getElem _ _ _ _ _ had] at hslot
  have hb : x[b] = y[b] := by simpa [hba, hbd] using hslot b
  have ha : x[a] = y[a] := by simpa [had, hb] using hslot a
  have hd : x[d] = y[d] := by
    have hrot : rotl32 (x[d] ^^^ (x[a] + x[b])) n = rotl32 (y[d] ^^^ (y[a] + y[b])) n := by simpa using hslot d
    rw [ha, hb] at hrot
    exact (BitVec.xor_left_inj _).mp (rotl32_injective hpos hn hrot)
  apply ext_words
  intro k
  obtain rfl | hkd := eq_or_ne k d
  · exact hd
  · obtain rfl | hka := eq_or_ne k a
    · exact ha
    · simpa [hkd, hka] using hslot k

theorem qrAt_injective {q : Quad} (hq : q.slots.Nodup) : Function.Injective fun x => qrAt x q := by
  obtain ⟨a, b, c, d⟩ := q
  obtain ⟨⟨hab, -, had⟩, ⟨hbc, hbd⟩, hcd⟩ := ne_of_nodup_slots hq
  have hline_d {n : Nat} := qrLine_injective (n := n) hab.symm hbd had
  have hline_b {n : Nat} := qrLine_injective (n := n) hcd.symm hbd.symm hbc.symm
  exact (hline_b (by decide) (by decide)).comp <| (hline_d (by decide) (by decide)).comp <|
    (hline_b (by decide) (by decide)).comp (hline_d (by decide) (by decide))

theorem foldl_qrAt_injective {l : List Quad} (hl : DisjointLanes l) : Function.Injective fun x => l.foldl qrAt x := by
  induction l with
  | nil => exact Function.injective_id
  | cons p l ih =>
    obtain ⟨hp, hl', -⟩ := disjointLanes_cons hl
    exact (ih hl').comp (qrAt_injective hp)

theorem columnRound_injective : Function.Injective columnRound :=
  foldl_qrAt_injective coversOnce_columns.disjointLanes

theorem diagonalRound_injective : Function.Injective diagonalRound :=
  foldl_qrAt_injective coversOnce_diagonals.disjointLanes

theorem doubleRound_injective : Function.Injective doubleRound := by
  intro x y h
  rw [doubleRound, doubleRound] at h
  exact columnRound_injective (diagonalRound_injective h)

theorem doubleRounds_injective (n : Nat) : Function.Injective (doubleRounds n) := by
  induction n with
  | zero => exact Function.injective_id
  | succ n ih => exact ih.comp doubleRound_injective

theorem finite_words : Finite Words :=
  Finite.of_injective (fun (x : Words) (k : Fin 16) => x[k]) fun _ _ h => ext_words (congrFun h)

/-- The file of sixteen zero words. -/
def zeroWords : Words := Vector.replicate 16 0

theorem qrLine_zeroWords (a b d : Fin 16) (n : Nat) : qrLine a b d n zeroWords = zeroWords := by
  simp [qrLine, zeroWords, add32, xor32]

theorem qrAt_zeroWords (q : Quad) : qrAt zeroWords q = zeroWords := by
  simp only [qrAt, qr, qrLine_zeroWords]

theorem doubleRound_zeroWords : doubleRound zeroWords = zeroWords := by
  rw [doubleRound, diagonalRound, columnRound, List.foldl_fixed' qrAt_zeroWords, List.foldl_fixed' qrAt_zeroWords]

theorem doubleRounds_zeroWords (n : Nat) : doubleRounds n zeroWords = zeroWords := by
  induction n with
  | zero => rfl
  | succ n ih => rw [doubleRounds_succ, doubleRound_zeroWords, ih]

/-- Settles O27: every line of a quarter round is injective, so PERMUTE is, and there are finitely many files. -/
theorem permutationIsABijection : Obligations.PermutationIsABijection := by
  have := finite_words
  exact ⟨(doubleRounds_injective 10).bijective_of_finite, doubleRounds_zeroWords 10⟩

end Sys2Proof.Machine
end

section
/-! HChaCha20 and DERIVE_SUBKEY (43_hchacha20.md): the subkey bytes by permuted word, and that nothing is added to them. -/

namespace Sys2Proof.Machine

/-! ### The subkey bytes (R162) -/

theorem subkeyBytes_low (x : Words) (p : Nat) (hp : p < 16) :
    (subkeyBytes x)[p] = x[p / 4].extractLsb' (8 * (p % 4)) 8 := by
  rw [subkeyBytes, wordsEnc_getElem, subkeyWords_low x (p / 4) (by omega)]

theorem subkeyBytes_high (x : Words) (p : Nat) (hp : p < 16) :
    (subkeyBytes x)[p + 16] = x[p / 4 + 12].extractLsb' (8 * (p % 4)) 8 := by
  have hdiv : (p + 16) / 4 = p / 4 + 4 := by omega
  have hmod : (p + 16) % 4 = p % 4 := by omega
  simp only [subkeyBytes, wordsEnc_getElem, hdiv, hmod, subkeyWords_high x (p / 4) (by omega)]

/-- Settles O30: exec answers in every state, with the subkey bytes read off the permuted words 0 to 3 and 12 to 15. -/
theorem deriveSubkeyResult : Obligations.DeriveSubkeyResult := by
  intro s key nonce16
  refine ⟨_, hchacha20 key nonce16, exec_deriveSubkey key nonce16 s, ?response, ?bytes, ?frame⟩
  case response => rw [State.complete_responses, State.retireX_responses, State.runHchacha_responses, statusOk]
  case bytes => exact fun p => ⟨subkeyBytes_low _ p p.isLt, subkeyBytes_high _ p p.isLt⟩
  case frame => simp

/-- Settles O29: the permutation of the loaded example is evaluated by the kernel. -/
theorem publishedSubkey : Obligations.PublishedSubkey := by
  unfold Obligations.PublishedSubkey
  decide +kernel

/-! ### No feed-forward (R163) -/

/-- The subkey shows word 0 of X unchanged, the encoding of its words losing nothing. -/
theorem word_zero_eq_of_subkeyBytes_eq {x y : Words} (h : subkeyBytes x = subkeyBytes y) : x[0] = y[0] := by
  have hwords : subkeyWords x = subkeyWords y := by
    have hdec := congrArg (wordsDec 8 ·) h
    simpa only [subkeyBytes, wordsDec_wordsEnc] using hdec
  rw [← subkeyWords_low x 0 (by decide), ← subkeyWords_low y 0 (by decide), hwords]

theorem hchachaLoad_constant (key : Vector Byte 32) (nonce16 : Vector Byte 16) (i : Nat) (hi : i < 4) :
    (hchachaLoad key nonce16)[i] = constWords[i] := by
  simp [hchachaLoad, hi]

theorem addWords_getElem (a b : Words) (i : Nat) (hi : i < 16) : (addWords a b)[i] = a[i] + b[i] := by
  simp [addWords, add32]

theorem constWords_zero_ne_zero : constWords[0] ≠ 0 := by
  decide

/-- Settles O28: equal subkeys would force word 0 of the loaded state, which is CONST[0], to be 0. -/
theorem subkeyHasNoFeedForward : Obligations.SubkeyHasNoFeedForward := by
  intro key nonce16 h
  have hsum : (permute (hchachaLoad key nonce16))[0] = (permute (hchachaLoad key nonce16))[0] + constWords[0] := by
    rw [← hchachaLoad_constant key nonce16 0 (by decide), ← addWords_getElem]
    exact word_zero_eq_of_subkeyBytes_eq h
  exact constWords_zero_ne_zero (BitVec.self_eq_add_right.mp hsum)

end Sys2Proof.Machine
end

section
/-! Context setup (44_context.md): the sixteen words NEW_CONTEXT writes, and what SET_COUNTER replaces. -/

namespace Sys2Proof.Machine

/-! ### NEW_CONTEXT (R175 to R179) -/

/-- Decoding the subkey bytes gives back the words they encode: permuted words 0 to 3 and 12 to 15. -/
theorem wordsDec_hchacha20 (key : Vector Byte 32) (nonce16 : Vector Byte 16) :
    wordsDec 8 (hchacha20 key nonce16) = subkeyWords (permute (hchachaLoad key nonce16)) := by
  rw [hchacha20, subkeyBytes, wordsDec_wordsEnc]

theorem contextWords_hchacha20_low (key : Vector Byte 32) (nonce16 : Vector Byte 16) (nonce : Vector Byte 24) (i : Nat)
    (hi : i < 4) :
    (contextWords (hchacha20 key nonce16) nonce)[4 + i] = (permute (hchachaLoad key nonce16))[i] := by
  simp only [Nat.add_comm 4 i]
  rw [contextWords_subkey _ _ i (by omega)]
  simp only [wordsDec_hchacha20, subkeyWords_low _ i hi]

theorem contextWords_hchacha20_high (key : Vector Byte 32) (nonce16 : Vector Byte 16) (nonce : Vector Byte 24) (i : Nat)
    (hi : i < 4) :
    (contextWords (hchacha20 key nonce16) nonce)[8 + i] = (permute (hchachaLoad key nonce16))[12 + i] := by
  have h8 : 8 + i = i + 4 + 4 := by omega
  simp only [h8, Nat.add_comm 12 i]
  rw [contextWords_subkey _ _ (i + 4) (by omega)]
  simp only [wordsDec_hchacha20, subkeyWords_high _ i hi]

/-- Of the nonce, the context takes only the suffix beside the subkey. -/
theorem contextWords_congr {sk sk' : Vector Byte 32} {nonce nonce' : Vector Byte 24} (hsk : sk = sk')
    (hsuffix : nonceSuffix nonce = nonceSuffix nonce') : contextWords sk nonce = contextWords sk' nonce' := by
  simp only [contextWords, hsk, hsuffix]

/-- NEW_CONTEXT and INIT are executed alike. -/
theorem exec_newContext_or_init {i : Instr} {key : Vector Byte 32} {nonce : Vector Byte 24}
    (hi : i = .newContext key nonce ∨ i = .init key nonce) (s : State) :
    exec i s = .next (newContextEffect key nonce s) := by
  obtain rfl | rfl := hi
  · exact exec_newContext key nonce s
  · exact (exec_canonical (i := .init key nonce) rfl s).symm.trans (exec_newContext key nonce s)

/-- Settles O31: exec answers in every state, with the context words of the subkey that the permutation gives. -/
theorem newContextResult : Obligations.NewContextResult := by
  intro s key nonce i hi
  obtain ⟨hctx, hvalid, hresponses, hj, hks, hpending, hbusy⟩ := newContextEffect_fields key nonce s
  refine ⟨_, exec_newContext_or_init hi s, hresponses, hvalid, ?words, ?counterLow, ?counterHigh, ?suffixLow, ?suffixHigh,
    hj, hks, hpending, hbusy⟩ <;> simp only [hctx]
  case words =>
    exact fun n => ⟨contextWords_constant _ _ n n.isLt, contextWords_hchacha20_low _ _ _ n n.isLt,
      contextWords_hchacha20_high _ _ _ n n.isLt⟩
  case counterLow => exact (contextWords_counter _ _).1
  case counterHigh => exact (contextWords_counter _ _).2
  case suffixLow => exact (contextWords_suffix _ _).1
  case suffixHigh => exact (contextWords_suffix _ _).2

/-- Settles O32: the context is a function of the subkey and the nonce suffix. -/
theorem keySurvivesOnlyInTheSubkey : Obligations.KeySurvivesOnlyInTheSubkey := by
  intro s s' key key' nonce nonce' hsubkey hsuffix
  obtain ⟨hctx, hvalid, -⟩ := newContextEffect_fields key nonce s
  obtain ⟨hctx', hvalid', -⟩ := newContextEffect_fields key' nonce' s'
  refine ⟨_, _, exec_newContext key nonce s, exec_newContext key' nonce' s', ?_, hvalid.trans hvalid'.symm⟩
  rw [hctx, hctx']
  exact contextWords_congr hsubkey hsuffix

/-! ### SET_COUNTER (R180) -/

theorem setCounterEffect_counter_words (counter : Vector Byte 8) (s : State) :
    (setCounterEffect counter s).ctx[12] = le32Dec (slice counter 0 4) ∧
      (setCounterEffect counter s).ctx[13] = le32Dec (slice counter 4 4) := by
  simp [setCounterEffect_eq, ctrDec_eq]

theorem setCounterEffect_counter (counter : Vector Byte 8) (s : State) :
    (setCounterEffect counter s).counter = le64Dec counter := by
  rw [State.counter, setCounterEffect_ctx, counterOf_withCounter]

theorem setCounterEffect_ctx_of_ne (counter : Vector Byte 8) (s : State) (n : Fin 16) (h12 : n ≠ 12) (h13 : n ≠ 13) :
    (setCounterEffect counter s).ctx[n.val] = s.ctx[n.val] := by
  simp only [setCounterEffect_ctx, withCounter_getElem_of_ne _ _ n h12 h13]

/-- Settles O33: SET_COUNTER under VALID = 1 is its effect, which replaces COUNTER alone. -/
theorem setCounterResult : Obligations.SetCounterResult := by
  intro s counter hs
  obtain ⟨hlow, hhigh⟩ := setCounterEffect_counter_words counter s
  exact ⟨_, exec_setCounter_of_valid counter s hs, setCounterEffect_eq counter s, hlow, hhigh,
    setCounterEffect_counter counter s, setCounterEffect_ctx_of_ne counter s⟩

end Sys2Proof.Machine
end

section
/-! The Stream Engine (45_stream.md): one block and the counter, the bytes of the stream, TRANSFORM and KEYSTREAM in closed
form, the round trip, and inputs that come in two parts. -/

namespace Sys2Proof.Machine

/-! ### One block and the counter (R195 to R198, R203) -/

theorem counterIncWords_of_wrap {ctx : Words} (h : ctx[12] = 0xFFFFFFFF) :
    (counterIncWords ctx)[12] = 0 ∧ (counterIncWords ctx)[13] = ctx[13] + 1 := by
  simp [counterIncWords, add32, h]

theorem counterIncWords_of_no_wrap {ctx : Words} (h : ctx[12] ≠ 0xFFFFFFFF) :
    (counterIncWords ctx)[12] = ctx[12] + 1 ∧ (counterIncWords ctx)[13] = ctx[13] := by
  have hlow : add32 ctx[12] 1 ≠ 0 := by
    rw [add32]
    bv_omega
  rw [counterIncWords, if_neg hlow]
  simp [add32]

/-- Settles O35: the counter by the pair of words, the two cases by the test of the low word for its wrap. -/
theorem counterIncrementCarries : Obligations.CounterIncrementCarries := by
  intro s
  have hctx : s.counterInc.ctx = withCounter s.ctx (s.counter + 1) := by
    rw [State.counterInc_ctx, counterIncWords_eq, State.counter]
  refine ⟨?counter, ?frame, ?wrap, ?noWrap⟩
  case counter => rw [State.counter, hctx, counterOf_withCounter]
  case frame => rw [← hctx, State.counterInc_ctx, State.counterInc]
  case wrap =>
    simp only [State.counterInc_ctx]
    exact counterIncWords_of_wrap
  case noWrap =>
    simp only [State.counterInc_ctx]
    exact counterIncWords_of_no_wrap

/-- Settles O36: BLOCK leaves the keystream block of CTX in KS, whose bytes are those of the sums word by word. -/
theorem blockKeystreamBytes : Obligations.BlockKeystreamBytes := by
  intro s p
  refine ⟨?_, State.block_ks s, State.block_j s, State.block_ctx s, State.block_valid s, State.block_busy s,
    State.block_responses s⟩
  simp only [State.block_ks]
  exact ksBlock_getElem s.ctx p p.isLt

/-! ### The bytes of the stream (R199 to R202) -/

/-- Keystream byte `q` of a context: byte q mod 64 of the block at COUNTER + floor(q/64). -/
def keystreamByte (ctx : Words) (q : Nat) : Byte :=
  (ksBlock (withCounter ctx (counterOf ctx + BitVec.ofNat 64 (q / 64))))[q % 64]'(Nat.mod_lt _ (by decide))

/-- The closed form of R201: the input XOR the keystream of a context, byte by byte. -/
def xorKeystream (ctx : Words) (input : List Byte) : List Byte :=
  input.mapIdx fun q b => b ^^^ keystreamByte ctx q

@[simp] theorem xorKeystream_length (ctx : Words) (input : List Byte) :
    (xorKeystream ctx input).length = input.length :=
  List.length_mapIdx

theorem xorKeystream_getElem (ctx : Words) (input : List Byte) (q : Nat) (h : q < (xorKeystream ctx input).length) :
    (xorKeystream ctx input)[q] = input[q]'(by simpa using h) ^^^ keystreamByte ctx q :=
  List.getElem_mapIdx

@[simp] theorem xorKeystream_nil (ctx : Words) : xorKeystream ctx [] = [] := rfl

/-- XOR with the same byte twice gives the byte back. -/
@[simp] theorem xorKeystream_xorKeystream (ctx : Words) (input : List Byte) :
    xorKeystream ctx (xorKeystream ctx input) = input := by
  apply List.ext_getElem (by simp)
  intro q _ _
  rw [xorKeystream_getElem, xorKeystream_getElem, BitVec.xor_assoc, BitVec.xor_self, BitVec.xor_zero]

/-- Advancing COUNTER by `k` drops the first `k` keystream blocks. -/
theorem keystreamByte_withCounter_add (ctx : Words) (k q : Nat) :
    keystreamByte (withCounter ctx (counterOf ctx + BitVec.ofNat 64 k)) q = keystreamByte ctx (q + 64 * k) := by
  have hdiv : (q + 64 * k) / 64 = k + q / 64 := by omega
  have hmod : (q + 64 * k) % 64 = q % 64 := by omega
  simp only [keystreamByte, withCounter_withCounter, counterOf_withCounter, hdiv, hmod, BitVec.ofNat_add,
    BitVec.add_assoc]

/-- After a part of whole blocks the stream goes on at the counter that part leaves. -/
theorem xorKeystream_append {k : Nat} (ctx : Words) {first : List Byte} (second : List Byte)
    (h : first.length = 64 * k) :
    xorKeystream ctx (first ++ second) =
      xorKeystream ctx first ++ xorKeystream (withCounter ctx (counterOf ctx + BitVec.ofNat 64 k)) second := by
  simp only [xorKeystream, List.mapIdx_append, h, keystreamByte_withCounter_add]

/-- XOR_BYTES with the block at COUNTER is the stream's first block. -/
theorem xorBytes_ksBlock (ctx : Words) (input : List Byte) :
    xorBytes (input.take 64) (ksBlock ctx) = xorKeystream ctx (input.take 64) := by
  apply List.ext_getElem (by simp [xorBytes_length])
  intro q h _
  have hq : q < 64 := by
    rw [xorBytes_length] at h
    omega
  have hbyte : keystreamByte ctx q = (ksBlock ctx)[q] := by
    simp only [keystreamByte, Nat.div_eq_of_lt hq, Nat.mod_eq_of_lt hq, BitVec.add_zero, withCounter_counterOf]
  rw [xorKeystream_getElem, hbyte]
  simp [xorBytes]

/-- The block loop, run until the input is used up, gives the closed form: by its iterations, each at COUNTER + 1. -/
theorem streamLoop_output (n : Nat) (input : List Byte) (s : State) (h : input.length ≤ 64 * n) :
    (streamLoop n input s).1 = xorKeystream s.ctx input := by
  induction n generalizing input s with
  | zero =>
    obtain rfl : input = [] := List.length_eq_zero_iff.mp (by omega)
    rfl
  | succ n ih =>
    have hdrop : (input.drop 64).length ≤ 64 * n := by
      rw [List.length_drop]
      omega
    rw [streamLoop_succ, ih _ _ hdrop, streamBlock_output, xorBytes_ksBlock, streamBlock_ctx, counterIncWords_eq]
    obtain hshort | hlong := Nat.le_total input.length 64
    · rw [List.take_of_length_le hshort, List.drop_of_length_le hshort, xorKeystream_nil, List.append_nil]
    · have htake : (input.take 64).length = 64 * 1 := by
        rw [List.length_take]
        omega
      calc xorKeystream s.ctx (input.take 64) ++ xorKeystream (withCounter s.ctx (counterOf s.ctx + 1)) (input.drop 64)
          = xorKeystream s.ctx (input.take 64 ++ input.drop 64) := (xorKeystream_append s.ctx _ htake).symm
        _ = xorKeystream s.ctx input := by rw [List.take_append_drop]

/-! ### TRANSFORM and KEYSTREAM in closed form (R200 to R205) -/

theorem transformEffect_responses (input : List Byte) (s : State) :
    (transformEffect input s).responses = s.responses ++ [0x00 :: xorKeystream s.ctx input] := by
  obtain ⟨hresponses, -⟩ := transformEffect_fields input s
  rw [hresponses, streamLoop_output _ _ _ (length_le_blockCount _), statusOk]

theorem transformEffect_counter (input : List Byte) (s : State) :
    (transformEffect input s).counter = s.counter + BitVec.ofNat 64 (blockCount input.length) := by
  rw [State.counter, transformEffect_ctx, counterOf_withCounter]

theorem transformEffect_valid (input : List Byte) (s : State) : (transformEffect input s).valid = s.valid := by
  obtain ⟨-, -, hvalid, -⟩ := transformEffect_fields input s
  exact hvalid

theorem exec_transform_of_valid (input : List Byte) {s : State} (h : s.valid = true) :
    exec (.transform input) s = .next (transformEffect input s) :=
  withContext_of_valid _ s h

/-- TRANSFORM, ENCRYPT and DECRYPT are executed alike. -/
theorem exec_transform_or_other_name {i : Instr} {input : List Byte}
    (hi : i = .transform input ∨ i = .encrypt input ∨ i = .decrypt input) (s : State) :
    exec i s = exec (.transform input) s := by
  obtain rfl | rfl | rfl := hi
  · rfl
  · exact (exec_canonical (i := .encrypt input) rfl s).symm
  · exact (exec_canonical (i := .decrypt input) rfl s).symm

/-- KEYSTREAM is TRANSFORM of zero bytes (R205). -/
theorem exec_keystream_eq_transform (length : BitVec 64) (s : State) :
    exec (.keystream length) s = exec (.transform (zeroInput length.toNat)) s := rfl

/-- Settles O37: the output is the closed form of the block loop, and the loop moves COUNTER only. -/
theorem transformClosedForm : Obligations.TransformClosedForm := by
  intro s input i hv hi
  obtain ⟨-, -, hvalid, hpending, hbusy⟩ := transformEffect_fields input s
  refine ⟨transformEffect input s, xorKeystream s.ctx input, ?_, transformEffect_responses input s,
    xorKeystream_length _ _, fun q _ h' => xorKeystream_getElem s.ctx input q h', transformEffect_ctx input s,
    transformEffect_counter input s, hvalid.trans hv, hpending, hbusy⟩
  rw [exec_transform_or_other_name hi, exec_transform_of_valid input hv]

theorem zeroInput_length (n : Nat) : (zeroInput n).length = n :=
  List.length_replicate

/-- XOR with zero bytes shows the keystream itself. -/
theorem xorKeystream_zeroInput_getElem (ctx : Words) (n q : Nat) (h : q < (xorKeystream ctx (zeroInput n)).length) :
    (xorKeystream ctx (zeroInput n))[q] = keystreamByte ctx q := by
  rw [xorKeystream_getElem]
  simp [zeroInput]

/-- Settles O38: KEYSTREAM is TRANSFORM of zero bytes, whose output is the keystream. -/
theorem keystreamClosedForm : Obligations.KeystreamClosedForm := by
  intro s length hv
  obtain ⟨-, -, hvalid, hpending, hbusy⟩ := transformEffect_fields (zeroInput length.toNat) s
  have hexec := exec_transform_of_valid (zeroInput length.toNat) hv
  have hctx := transformEffect_ctx (zeroInput length.toNat) s
  rw [zeroInput_length] at hctx
  refine ⟨_, xorKeystream s.ctx (zeroInput length.toNat), (exec_keystream_eq_transform length s).trans hexec, hexec,
    transformEffect_responses _ s, ?_, xorKeystream_zeroInput_getElem s.ctx _, hctx, hvalid.trans hv, hpending, hbusy⟩
  rw [xorKeystream_length, zeroInput_length]

/-- For no input the loop runs no iteration (R204). -/
theorem transformEffect_nil (s : State) :
    transformEffect [] s = { s with responses := s.responses ++ [[0x00]], busy := false } := rfl

/-- Settles O39: both commands are TRANSFORM of no bytes, which runs no iteration. -/
theorem zeroLengthIsANoOp : Obligations.ZeroLengthIsANoOp := by
  intro s i hi
  have hexec : exec i s = withContext (transformEffect []) s := by
    obtain rfl | rfl := hi
    · exact exec_transform [] s
    · exact exec_keystream_eq_transform 0 s
  rw [hexec]
  constructor
  · intro hv
    rw [withContext_of_valid _ s hv, transformEffect_nil]
  · intro hv
    rw [withContext_of_not_valid _ s hv, raise_eq, errorCode]

/-! ### The round trip (R206) -/

/-- The state after NEW_CONTEXT and SET_COUNTER. -/
def setupEffect (key : Vector Byte 32) (nonce : Vector Byte 24) (counter : Vector Byte 8) (s : State) : State :=
  setCounterEffect counter (newContextEffect key nonce s)

theorem setupEffect_valid (key : Vector Byte 32) (nonce : Vector Byte 24) (counter : Vector Byte 8) (s : State) :
    (setupEffect key nonce counter s).valid = true := by
  rw [setupEffect, setCounterEffect_valid, newContextEffect_valid]

theorem exec_setCounter_after_newContext (key : Vector Byte 32) (nonce : Vector Byte 24) (counter : Vector Byte 8)
    (s : State) : exec (.setCounter counter) (newContextEffect key nonce s) = .next (setupEffect key nonce counter s) :=
  exec_setCounter_of_valid counter _ (newContextEffect_valid key nonce s)

/-- The context is set up from the operands alone. -/
theorem setupEffect_ctx_eq (key : Vector Byte 32) (nonce : Vector Byte 24) (counter : Vector Byte 8) (s t : State) :
    (setupEffect key nonce counter s).ctx = (setupEffect key nonce counter t).ctx := by
  rw [setupEffect, setupEffect, setCounterEffect_ctx, setCounterEffect_ctx, newContextEffect_ctx_eq key nonce s t]

/-- Settles O41: both set-ups give one context, and the keystream of one context cancels itself. -/
theorem roundTripRestoresTheMessage : Obligations.RoundTripRestoresTheMessage := by
  intro s key nonce counter message
  have hsetup := exec_setCounter_after_newContext key nonce counter
  have htransform (input : List Byte) (r : State) :=
    exec_transform_of_valid input (setupEffect_valid key nonce counter r)
  refine ⟨_, _, _, _, exec_newContext key nonce s, hsetup s, htransform message s, transformEffect_responses _ _,
    fun r => ⟨_, _, _, exec_newContext key nonce r, hsetup r, htransform _ r, ?response, ?context⟩⟩
  case response => rw [transformEffect_responses, setupEffect_ctx_eq key nonce counter r s, xorKeystream_xorKeystream]
  case context =>
    rw [transformEffect_ctx, transformEffect_ctx, xorKeystream_length, State.counter, State.counter,
      setupEffect_ctx_eq key nonce counter r s]

/-! ### An input in two parts (R208) -/

/-- Two TRANSFORMs under a context: the second runs on the state the first leaves. -/
theorem exec_transform_twice_of_valid (first second : List Byte) {s : State} (h : s.valid = true) :
    exec (.transform first) s = .next (transformEffect first s) ∧
      exec (.transform second) (transformEffect first s) = .next (transformEffect second (transformEffect first s)) :=
  ⟨exec_transform_of_valid first h, exec_transform_of_valid second ((transformEffect_valid first s).trans h)⟩

theorem blockCount_mul_add (k n : Nat) : blockCount (64 * k + n) = k + blockCount n := by
  unfold blockCount
  omega

/-- A first part of whole blocks leaves CTX with COUNTER advanced by their number. -/
theorem transformEffect_ctx_of_blocks {first : List Byte} {k : Nat} (h : first.length = 64 * k) (s : State) :
    (transformEffect first s).ctx = withCounter s.ctx (s.counter + BitVec.ofNat 64 k) := by
  rw [transformEffect_ctx, h, blockCount_mul]

/-- Settles O42: the second part starts at the counter that the whole input has reached there. -/
theorem splitAtABlockBoundary : Obligations.SplitAtABlockBoundary := by
  rintro s first second hv ⟨k, hk⟩
  obtain ⟨hfirst, hsecond⟩ := exec_transform_twice_of_valid first second hv
  refine ⟨_, _, _, _, _, exec_transform_of_valid (first ++ second) hv, hfirst, hsecond,
    transformEffect_responses first s, transformEffect_responses second _, ?output, ?context⟩
  case output =>
    rw [transformEffect_responses, xorKeystream_append s.ctx second hk, transformEffect_ctx_of_blocks hk, State.counter]
  case context =>
    rw [transformEffect_ctx second, transformEffect_counter, transformEffect_ctx_of_blocks hk, withCounter_withCounter,
      transformEffect_ctx (first ++ second), List.length_append, hk, blockCount_mul, blockCount_mul_add,
      BitVec.ofNat_add, BitVec.add_assoc]

/-- Off a block boundary the parts take one block more than the whole exactly when their partial blocks fit one block. -/
theorem blockCount_add_blockCount {m : Nat} (n : Nat) (h : m % 64 ≠ 0) :
    blockCount m + blockCount n = blockCount (m + n) + if n % 64 ≠ 0 ∧ m % 64 + n % 64 ≤ 64 then 1 else 0 := by
  unfold blockCount
  split_ifs with hfit <;> omega

/-- Settles O43: COUNTER advances by the blocks of each part, so the difference is that of the block counts. -/
theorem splitOffABlockBoundaryCountsMore : Obligations.SplitOffABlockBoundaryCountsMore := by
  intro s first second hv hcut
  obtain ⟨hfirst, hsecond⟩ := exec_transform_twice_of_valid first second hv
  refine ⟨_, _, _, exec_transform_of_valid (first ++ second) hv, hfirst, hsecond, ?_⟩
  rw [transformEffect_counter, transformEffect_counter, transformEffect_counter, List.length_append, BitVec.add_assoc,
    ← BitVec.ofNat_add, blockCount_add_blockCount _ hcut, BitVec.ofNat_add, ← BitVec.add_assoc]
  split_ifs <;> rfl

end Sys2Proof.Machine
end

section
/-! Exceptions (60_exceptions.md): what a bad frame and a command without a context are answered with, and that every frame
taken is answered once. -/

namespace Sys2Proof.Machine

/-! ### NoContext (R233) -/

/-- A term that needs a context is its effect behind the check of VALID, under every name it has. -/
theorem exec_eq_withContext {i : Instr} (hw : i.WellFormed) (hneeds : needsContext i = true) (s : State) :
    ∃ run, exec i s = withContext run s := by
  cases i with
  | deriveSubkey | newContext | init => cases hneeds
  | setCounter counter => exact ⟨_, exec_setCounter counter s⟩
  | transform input | encrypt input | decrypt input => exact ⟨_, exec_transform input s⟩
  | keystream length => exact ⟨_, exec_keystream length s⟩
  | encryptBlocks blocks input => exact ⟨_, exec_encryptBlocks blocks input s (of_decide_eq_true hw)⟩
  | decryptBlocks blocks input => exact ⟨_, exec_decryptBlocks blocks input s (of_decide_eq_true hw)⟩
  | keystreamBlocks blocks => exact ⟨_, exec_keystreamBlocks blocks s (of_decide_eq_true hw)⟩

theorem exec_raises_noContext {i : Instr} {s : State} (hw : i.WellFormed) (hneeds : needsContext i = true)
    (hv : s.valid = false) : exec i s = .next (s.raise .noContext) := by
  obtain ⟨run, hexec⟩ := exec_eq_withContext hw hneeds s
  rw [hexec, withContext_of_not_valid run s hv]

/-- A command that needs no context is answered with status OK. -/
theorem exec_statusOk_of_not_needsContext {i : Instr} {s t : State} (hneeds : needsContext i = false)
    (h : exec i s = .next t) : ∃ data, t.responses = s.responses ++ [statusOk :: data] := by
  obtain ⟨hneeds', -, -⟩ | ⟨data, -, hresponses, -⟩ := exec_answered h
  · cases hneeds.symm.trans hneeds'
  · exact ⟨data, hresponses⟩

/-- Settles O19: the check of VALID stands before every effect that needs a context; the other commands answer OK. -/
theorem noContextUnderEveryName : Obligations.NoContextUnderEveryName := by
  refine ⟨fun i s hw hneeds hv => exec_raises_noContext hw hneeds hv, fun i s t hneeds h hr => ?_⟩
  obtain ⟨data, hresponses⟩ := exec_statusOk_of_not_needsContext hneeds h
  obtain ⟨hstatus, -⟩ := response_inj (hresponses.symm.trans hr)
  exact absurd hstatus (by decide)

/-! ### Errors in the order of priority (R235, R236) -/

/-- Taking a frame and ending in an error: in a state with BUSY = 0 only the transport's lists change. -/
theorem accept_raise_eq {s : State} (hb : s.busy = false) (rest : List HostInput) (e : CommandError) :
    (s.accept rest).raise e = { s with pending := rest, responses := s.responses ++ [[errorCode e]] } := by
  rw [raise_eq, ← hb]
  rfl

theorem step_of_decode_error {s : State} {cmd : Frame} {rest : List HostInput} {e : CommandError}
    (hb : s.busy = false) (hp : s.pending = .frame cmd :: rest) (hd : decode cmd = .error e) :
    step s = .next { s with pending := rest, responses := s.responses ++ [[errorCode e]] } := by
  rw [step_eq_runFrame hb hp, runFrame, hd, ← accept_raise_eq hb]

theorem step_of_contextFrame {s : State} {cmd : Frame} {rest : List HostInput} (hb : s.busy = false)
    (hp : s.pending = .frame cmd :: rest) (hc : ContextFrame cmd) (hv : s.valid = false) :
    step s = .next { s with pending := rest, responses := s.responses ++ [[errorCode .noContext]] } := by
  obtain ⟨i, hd, hneeds⟩ := (contextFrame_iff cmd).mp hc
  obtain ⟨-, hw, -⟩ := encodeOfDecodeIsTheFrame cmd i hd
  have hv' : (s.accept rest).valid = false := hv
  rw [step_of_frame hb hp hd, exec_raises_noContext hw hneeds hv', accept_raise_eq hb]

/-- Settles O7: the decoder gives its two errors in this order, and only an accepted frame reaches the check of VALID. -/
theorem errorsInPriorityOrder : Obligations.ErrorsInPriorityOrder := fun _ _ _ hb hp =>
  ⟨fun hi => step_of_decode_error hb hp (decode_of_illegalFrame hi),
    fun _ hw => step_of_decode_error hb hp (decode_of_wrongLengthFrame hw),
    fun _ _ hc hv => step_of_contextFrame hb hp hc hv⟩

/-! ### Every frame taken is answered (R230, R63) -/

/-- From `s` to `t` one response is delivered and BUSY is off; the transport still holds what it held. -/
structure AnsweredOnce (s t : State) : Prop where
  pending : t.pending = s.pending
  busy : t.busy = false
  response : ∃ response, t.responses = s.responses ++ [response]

theorem respond_answeredOnce (status : Byte) (data : List Byte) (s : State) :
    AnsweredOnce s (s.respond status data) :=
  ⟨rfl, rfl, _, rfl⟩

theorem transformEffect_answeredOnce (input : List Byte) (s : State) : AnsweredOnce s (transformEffect input s) := by
  obtain ⟨hresponses, -, -, hpending, hbusy⟩ := transformEffect_fields input s
  exact ⟨hpending, hbusy, _, hresponses⟩

theorem newContextEffect_answeredOnce (key : Vector Byte 32) (nonce : Vector Byte 24) (s : State) :
    AnsweredOnce s (newContextEffect key nonce s) := by
  obtain ⟨-, -, hresponses, -, -, hpending, hbusy⟩ := newContextEffect_fields key nonce s
  exact ⟨hpending, hbusy, _, hresponses⟩

theorem withContext_answeredOnce {run : State → State} {s : State} (hrun : AnsweredOnce s (run s)) :
    ∃ t, withContext run s = .next t ∧ AnsweredOnce s t := by
  obtain ⟨-, hraise⟩ | ⟨-, hnext⟩ := withContext_cases run s
  · exact ⟨_, hraise, respond_answeredOnce _ _ s⟩
  · exact ⟨_, hnext, hrun⟩

/-- A frame that is executed or refused by the decoder ends in a next state, with one response. -/
theorem runFrame_answeredOnce (cmd : Frame) (s : State) : ∃ t, runFrame cmd s = .next t ∧ AnsweredOnce s t := by
  obtain ⟨i, hd, hrun⟩ | ⟨e, -, hrun⟩ := runFrame_cases cmd s <;> rw [hrun]
  · obtain ⟨key, nonce16, rfl, -⟩ | ⟨key, nonce, rfl, -⟩ | ⟨counter, rfl, -⟩ | ⟨input, rfl, -⟩ | ⟨length, rfl, -⟩ :=
      decode_cases cmd i hd
    · exact ⟨_, exec_deriveSubkey key nonce16 s, by simp, by simp, statusOk :: (hchacha20 key nonce16).toList, by simp⟩
    · exact ⟨_, exec_newContext key nonce s, newContextEffect_answeredOnce key nonce s⟩
    · exact withContext_answeredOnce ⟨rfl, rfl, _, rfl⟩
    · exact withContext_answeredOnce (transformEffect_answeredOnce input s)
    · exact withContext_answeredOnce (transformEffect_answeredOnce _ s)
  · exact ⟨_, rfl, respond_answeredOnce _ _ s⟩

theorem exists_serveInput_eq_next (input : HostInput) (rest : List HostInput) (s : State) :
    ∃ t, serveInput input rest s = .next t := by
  cases input with
  | reset => exact ⟨_, rfl⟩
  | frame cmd =>
    obtain ⟨t, hrun, -⟩ := runFrame_answeredOnce cmd (s.accept rest)
    rw [serveInput, hrun]
    split
    · exact ⟨s, rfl⟩
    · exact ⟨t, rfl⟩
  | frameThenReset cmd =>
    rw [serveInput]
    split
    · exact ⟨s, rfl⟩
    · exact ⟨_, rfl⟩

/-- No step ends in a fault or a refusal (R230). -/
theorem exists_step_eq_next (s : State) : ∃ t, step s = .next t := by
  unfold step
  split
  · exact ⟨s, rfl⟩
  · exact exists_serveInput_eq_next _ _ s

/-- Settles O10: every step has a next state, and for a frame taken it is that of `runFrame`, which answers once. -/
theorem everyFrameIsAnsweredOnce : Obligations.EveryFrameIsAnsweredOnce := by
  intro s
  obtain ⟨t, hstep⟩ := exists_step_eq_next s
  refine ⟨t, hstep, fun cmd rest hp hb => ?_⟩
  rw [step_eq_runFrame hb hp] at hstep
  obtain ⟨t', hrun, hpending, hbusy, hresponse⟩ := runFrame_answeredOnce cmd (s.accept rest)
  cases hrun.symm.trans hstep
  exact ⟨hpending, hbusy, hresponse⟩

end Sys2Proof.Machine
end

section
/-! Reset and hazards (70_reset_and_hazards.md): the CORE with nothing offered, a frame offered while BUSY = 1, and reset
between commands and during one. -/

namespace Sys2Proof.Machine

/-! ### Waiting (R261, R268) -/

theorem step_of_pending_nil {s : State} (hp : s.pending = []) : step s = .next s := by
  simp [step, hp]

theorem step_of_frame_of_busy {s : State} {cmd : Frame} {rest : List HostInput} (hb : s.busy = true)
    (hp : s.pending = .frame cmd :: rest) : step s = .next s := by
  simp [step, hp, serveInput, hb]

/-- Settles O11: no input is there to be served. -/
theorem idleCoreWaits : Obligations.IdleCoreWaits := fun _ hp => step_of_pending_nil hp

/-- Settles O12: the check of BUSY stands before the frame is taken. -/
theorem frameIsHeldWhileBusy : Obligations.FrameIsHeldWhileBusy := fun _ _ _ hb hp => step_of_frame_of_busy hb hp

/-! ### Reset (R260, R262) -/

theorem step_of_reset {s : State} {rest : List HostInput} (hp : s.pending = .reset :: rest) :
    step s = .next (State.resetInput { s with pending := rest }) := by
  simp [step, hp, serveInput]

/-- The frame is accepted, and reset comes before its command is executed. -/
theorem step_of_frameThenReset {s : State} {cmd : Frame} {rest : List HostInput} (hb : s.busy = false)
    (hp : s.pending = .frameThenReset cmd :: rest) : step s = .next (s.accept rest).resetInput := by
  simp [step, hp, serveInput, hb]

/-- Settles O13: either way the next state is a reset of one that holds the rest of the inputs and the same responses. -/
theorem resetInputClearsFlags : Obligations.ResetInputClearsFlags := by
  rintro s rest (hp | ⟨cmd, hp, hb⟩)
  · exact ⟨_, step_of_reset hp, State.resetInput_valid _, State.resetInput_busy _, State.resetInput_responses _,
      State.resetInput_pending _⟩
  · exact ⟨_, step_of_frameThenReset hb hp, State.resetInput_valid _, State.resetInput_busy _,
      State.resetInput_responses _, State.resetInput_pending _⟩

end Sys2Proof.Machine
end
